-- ==== Sys2Proof/Word.lean ====
section
/-!
DEFINITION. The two bit-vector types of the block: the 16-bit bus word and the 8-bit character
(spec/00_scope.md R7, R8). Times, counters and queue counts are unbounded naturals (R7).
-/

namespace Sys2Proof

/-- One bus word, exchanged whole; bit 15 is the most significant (R8, R72). -/
abbrev Word := BitVec 16

/-- One character, or one queue slot (R7, R31). -/
abbrev Byte := BitVec 8

end Sys2Proof
end

