-- ==== Sys2Proof/Syntax.lean ====
section
/-!
DEFINITION. The vocabulary of the block: the bus words of spec/opcode_table.json as `Instr` (one constructor a
row), the abstract transaction kinds of R100 as `Txn`, serial formats (R20), and what the agents around the worker can do
(R5, R270): host requests, moves, and the answers of the bus.
-/

namespace Sys2Proof

/-- Word length, data bits per character (R20). -/
inductive WordLen where
  | seven
  | eight
deriving DecidableEq, Repr, Inhabited

/-- Parity mode (R20, R174). -/
inductive Parity where
  | none
  | even
  | odd
deriving DecidableEq, Repr, Inhabited

/-- Stop bits (R20). -/
inductive StopBits where
  | one
  | two
deriving DecidableEq, Repr, Inhabited

/-- A serial format (R20): the nominal rate used for timing, the chip's baud-select code, and the framing. -/
structure Format where
  baud : Nat
  code : BitVec 4
  wlen : WordLen
  par  : Parity
  stop : StopBits
deriving DecidableEq, Repr, Inhabited

/-- The bus words of spec/opcode_table.json, one constructor a row. The operands are the table's fields: ST, PE, L and B
of a configuration write (R102), PT and D of a data write (R104). -/
inductive Instr where
  /-- write configuration, normal operation (R146) -/
  | cfg (st pe l : Bool) (b : BitVec 4)
  /-- write configuration with software power-down (R149) -/
  | pwrdn (st pe l : Bool) (b : BitVec 4)
  /-- read data (R145) -/
  | rd
  /-- write data: one character with the driver enable asserted (R147) -/
  | txd (pt : Bool) (d : Byte)
  /-- write data: drop the driver enable, no character (R148) -/
  | deoff
  /-- read configuration: exists on the chip, never issued by the block (R103, R152) -/
  | rc
deriving DecidableEq, Repr, Inhabited

/-- The five transaction kinds the sequencer issues, kept abstract (R100). -/
inductive Txn where
  | cfg (f : Format)
  | pwrdn (f : Format)
  | rd
  | txd (f : Format) (c : Byte)
  | deoff
deriving DecidableEq, Repr, Inhabited

/-- What the environment answers to one exchange (R140): a transport error, or any 16-bit response. -/
inductive Answer where
  | err
  | ok (r : Word)
deriving DecidableEq, Repr, Inhabited

/-- The parity field of a format request: the three modes, or anything else, which falls back (R179, R182). -/
inductive ReqParity where
  | mode (p : Parity)
  | other
deriving DecidableEq, Repr, Inhabited

/-- The host's requests (R270). `attach` carries the environment's two draws of that step: whether the activation source is
available (R271) and the clock value the new Port starts with (R350). -/
inductive Request where
  | attach (available : Bool) (clock : Nat)
  | push (bytes : List Byte)
  | openPort
  | setFormat (baud wlen : Nat) (par : ReqParity) (stop : Nat)
  | flush
  | stopTx
  | startTx
  | queryModem
  | queryTxe
  | suspend
  | resume
  | close
  | detach
  | setMctrl (m : Nat)
deriving DecidableEq, Repr, Inhabited

/-- One agent taking one atomic step (R5, R80): the worker, the host with a request, the chip interrupt, the poll timer, the
one-shot timer, or the clock. -/
inductive Move where
  | worker
  | host (r : Request)
  | irq
  | poll
  | fire
  | tick (delta : Nat)
deriving DecidableEq, Repr, Inhabited

/-- One field of a format request that fell back, with the requested value (R179). -/
inductive Fallback where
  | baud (n : Nat)
  | wlen (n : Nat)
  | par
  | stop (n : Nat)
deriving DecidableEq, Repr, Inhabited

end Sys2Proof
end

