-- ==== Sys2Proof/Config.lean ====
section
/-!
DEFINITION. The parameters of spec/00_scope.md R6, the values R6 chooses for them, and the free values. The parameters are the
fields of `Board`, which every state carries, so the machine takes them as arguments. For the Port that `State.reset` attaches a
parameter to which R6 gives a value has that value. One that R6 leaves OPEN, and every draw of the environment
(spec/93_implementation_defined.md I7 to I12, I19), is an opaque constant: no proof can see its value, so what is proved holds
whatever it is.
-/

namespace Sys2Proof.Config

/-- `NSEC_PER_SEC`, fixed by the document (R6). -/
abbrev nsecPerSec : Nat := 1000000000

/-- `CRYSTAL` (R6): the slower oscillator (0) or the one twice as fast (1). -/
inductive Crystal where
  | slow
  | fast
deriving DecidableEq, Repr, Inhabited

/-- `IRQ_PRESENT` and `POLL_PERIOD_NS` together (R6). R355 forbids an instance with neither, and a period is above 0, so the
type holds only the allowed combinations: the poll period is `predPeriod + 1` nanoseconds. -/
inductive Activation where
  | irqOnly
  | irqAndPoll (predPeriod : Nat)
  | pollOnly (predPeriod : Nat)
deriving DecidableEq, Repr, Inhabited

/-- `IRQ_PRESENT` (R6). -/
def Activation.irqPresent : Activation → Bool
  | .irqOnly => true
  | .irqAndPoll _ => true
  | .pollOnly _ => false

/-- `POLL_PERIOD_NS` (R6). -/
def Activation.pollPeriod : Activation → Option Nat
  | .irqOnly => none
  | .irqAndPoll p => some (p + 1)
  | .pollOnly p => some (p + 1)

/-- One row of `BAUD_TABLE`: a nominal rate and its code under each oscillator, where it has one (R176). -/
structure BaudRow where
  rate : Nat
  slow : Option (BitVec 4)
  fast : Option (BitVec 4)
deriving DecidableEq, Repr, Inhabited

/-- `BAUD_TABLE` as a list of rows; a rate without a row has no code (R6, R175). -/
abbrev BaudTable := List BaudRow

/-- `DEFAULT_FORMAT` (R6): a format without its code, which comes from `BAUD_TABLE` (R26). -/
structure DefaultFormat where
  baud : Nat
  wlen : WordLen
  par  : Parity
  stop : StopBits
deriving DecidableEq, Repr, Inhabited

/-- The parameters of one Port (R6, R338): none of them changes while the Port exists. -/
structure Board where
  /-- `CRYSTAL` -/
  crystal       : Crystal
  /-- `BAUD_TABLE` -/
  baudTable     : BaudTable
  /-- `XMIT_CAP`, the number of queue slots (R31) -/
  xmitCap       : Nat
  /-- `RX_DRAIN_MAX`, the bound of one drain (R150) -/
  rxDrainMax    : Nat
  /-- `SINK_ATTEMPTS`, how often one delivery offers its characters to the sink (R151) -/
  sinkAttempts  : Nat
  /-- `IRQ_PRESENT` and `POLL_PERIOD_NS` -/
  activation    : Activation
  /-- `DEFAULT_FORMAT` -/
  defaultFormat : DefaultFormat
  /-- `FE_REPORT` -/
  feReport      : Bool
deriving DecidableEq, Repr, Inhabited

/-! ### The values R6 chooses -/

/-- `BAUD_TABLE` with the default values of R176. -/
def baudTable : BaudTable :=
  [⟨300, some 15, none⟩, ⟨600, some 14, some 15⟩, ⟨1200, some 13, some 14⟩, ⟨2400, some 12, some 13⟩,
   ⟨4800, some 11, some 12⟩, ⟨9600, some 10, some 11⟩, ⟨19200, some 9, some 10⟩, ⟨38400, some 8, some 9⟩,
   ⟨57600, some 1, some 2⟩, ⟨115200, some 0, some 1⟩, ⟨230400, none, some 0⟩]

/-- The parameters with every value R6 chooses, for given values of the OPEN ones (R6, I1, I3, I4, I5). -/
def chosenBoard (x : Crystal) (a : Activation) : Board :=
  { crystal := x, baudTable := baudTable, xmitCap := 4096, rxDrainMax := 8, sinkAttempts := 3, activation := a
    defaultFormat := { baud := 9600, wlen := .eight, par := .none, stop := .one }, feReport := false }

/-! ### The Port that `State.reset` attaches -/

/-- `CRYSTAL` of the Port that `State.reset` attaches: OPEN (R6, I1). -/
opaque crystal : Crystal

/-- `IRQ_PRESENT` and `POLL_PERIOD_NS` of that Port: OPEN (R6, I3, I4). -/
opaque activation : Activation

/-- The clock at that attach: any natural, a draw of the environment (R350, I12). -/
opaque bootTime : Nat

/-- That Port's parameters. -/
def board : Board := chosenBoard crystal activation

/-! ### The environment's draws -/

/-- The n-th move nobody has scripted: any agent may go next (R80, I19), the clock by any amount (I11), the host with any
request (I13 among its draws). -/
opaque freeMove : Nat → Move

/-- The n-th unscripted answer of the bus: `Err`, or `Ok` with any word (R140, I7, I8, I9). -/
opaque freeAnswer : Nat → Answer

/-- The n-th unscripted answer of the sink: how many leading characters it takes, cut to the list's length where it is used
(R151, I10). -/
opaque freeAccept : Nat → Nat

end Sys2Proof.Config
end

