-- ==== Sys2Proof/WellFormed.lean ====
section
/-!
DEFINITION. Which bus words stand for something the block could ever assemble. Field widths are in the types of `Instr`; what
is left to check is that the baud-select code of a configuration write is one that `BAUD_TABLE`, a parameter, gives (R113, R176).
-/

namespace Sys2Proof

/-- The code stands in the table under some oscillator (R176). -/
def codeListed (table : Config.BaudTable) (b : BitVec 4) : Bool :=
  table.any fun row => row.slow == some b || row.fast == some b

/-- A well-formed bus word under a baud table (R108, R113). -/
def Instr.wf (table : Config.BaudTable) : Instr → Bool
  | .cfg _ _ _ b => codeListed table b
  | .pwrdn _ _ _ b => codeListed table b
  | .rd => true
  | .txd _ _ => true
  | .deoff => true
  | .rc => true

end Sys2Proof
end

