-- ==== Sys2Proof/Decode.lean ====
section
/-!
DEFINITION. Bus words to instructions and back (spec/30_encoding.md R101 to R107, spec/opcode_table.json). The decoder is
total and names what it refuses; the encoder lays the fields of R102 to R105 side by side.
-/

namespace Sys2Proof

/-- Why a word stands for no row of the opcode table: the spaces R108 reserves, by their tag (R101), or a word cut short. -/
inductive DecodeError where
  /-- tag 11, with a bit among 13 and 11 to 7 other than R102's -/
  | reservedWriteConfig
  /-- tag 01, with a bit of 13 to 0 set (R103) -/
  | reservedReadConfig
  /-- tag 10, with bits 13 to 11 not 0, or TE# and RTS not those of a character or of the disable word (R104, R108) -/
  | reservedWriteData
  /-- tag 00, with a bit of 13 to 0 set (R105) -/
  | reservedReadData
  /-- fewer than the two bytes of a word (R115) -/
  | truncated
deriving DecidableEq, Repr

/-- The tag field, bits 15 to 14 (R101). -/
def tagOf (w : Word) : BitVec 2 := w.extractLsb' 14 2

/-- Read one bus word (R101 to R107). -/
def decodeWord (w : Word) : Except DecodeError Instr :=
  if w &&& 0xFF80#16 = 0xC400#16 then
    .ok (.cfg (w.getLsbD 6) (w.getLsbD 5) (w.getLsbD 4) (w.extractLsb' 0 4))
  else if w &&& 0xFF80#16 = 0xD400#16 then
    .ok (.pwrdn (w.getLsbD 6) (w.getLsbD 5) (w.getLsbD 4) (w.extractLsb' 0 4))
  else if w &&& 0xFE00#16 = 0x8200#16 then
    .ok (.txd (w.getLsbD 8) (w.extractLsb' 0 8))
  else if w = 0x0000#16 then .ok .rd
  else if w = 0x8400#16 then .ok .deoff
  else if w = 0x4000#16 then .ok .rc
  else if tagOf w = 0b11#2 then .error .reservedWriteConfig
  else if tagOf w = 0b01#2 then .error .reservedReadConfig
  else if tagOf w = 0b10#2 then .error .reservedWriteData
  else .error .reservedReadData

/-- A word from two bytes of a byte-wide transport, the high byte first (R72). -/
def wordOfBytes (hi lo : Byte) : Word := hi ++ lo

/-- Read one word off a byte stream and leave the rest (R72, R115). -/
def decode : List Byte → Except DecodeError (Instr × List Byte)
  | hi :: lo :: rest =>
    match decodeWord (wordOfBytes hi lo) with
    | .ok i => .ok (i, rest)
    | .error e => .error e
  | _ => .error .truncated

/-- A write-configuration word from its fields, bit 15 first (R102): tag, FEN#, SHDNi, TM#, RM#, PM#, RAM#, IR, ST, PE, L, B. -/
def writeConfigWord (shdn st pe l : Bool) (b : BitVec 4) : Word :=
  0b11#2 ++ 0b0#1 ++ BitVec.ofBool shdn ++ 0b0#1 ++ 0b1#1 ++ 0b0#1 ++ 0b0#1 ++ 0b0#1 ++
    BitVec.ofBool st ++ BitVec.ofBool pe ++ BitVec.ofBool l ++ b

/-- A write-data word from its fields, bit 15 first (R104): tag, three zeros, TE#, RTS, PT, D. -/
def writeDataWord (te rts pt : Bool) (d : Byte) : Word :=
  0b10#2 ++ 0b000#3 ++ BitVec.ofBool te ++ BitVec.ofBool rts ++ BitVec.ofBool pt ++ d

/-- The word of an instruction (R102 to R107). -/
def encode : Instr → Word
  | .cfg st pe l b => writeConfigWord false st pe l b
  | .pwrdn st pe l b => writeConfigWord true st pe l b
  | .rd => 0b00#2 ++ 0#14
  | .txd pt d => writeDataWord false true pt d
  | .deoff => writeDataWord true false false 0#8
  | .rc => 0b01#2 ++ 0#14

/-- The two bytes of an instruction on a byte-wide transport, the high byte first (R72). -/
def encodeBytes (i : Instr) : List Byte :=
  [(encode i).extractLsb' 8 8, (encode i).extractLsb' 0 8]

/-- The instruction the decoder reads from the low `nbits` bits of `w`, bit 0 the least significant bit of the one word an
instruction has (R115); `none` where it refuses. -/
def decodeTableWord (nbits w : Nat) : Option Instr :=
  let word : Word := BitVec.ofNat 16 (w % 2 ^ nbits)
  match decode [word.extractLsb' 8 8, word.extractLsb' 0 8] with
  | .ok (i, _) => some i
  | .error _ => none

end Sys2Proof
end

