-- ==== Sys2Proof/Machine/Codec.lean ====
section
/-!
DEFINITION. The parity and framing codec, the baud mapping and the hold computation: the pure functions of
spec/41_codec.md R170 to R183 and spec/42_timing_controller.md R200, R201.
-/

namespace Sys2Proof.Machine

/-- `mask(wlen)` (R170). -/
def mask : WordLen → Byte
  | .seven => 0x7F#8
  | .eight => 0xFF#8

/-- `popcount(v)`, the number of 1 bits (R8). -/
def popcount (v : Byte) : Nat :=
  (List.range 8).countP fun i => v.getLsbD i

/-- `compute_parity`, here `parity_bit(c, wl, odd)` (R171, R174). -/
def parityBit (c : Byte) (wl : WordLen) (odd : Bool) : Bool :=
  odd ^^ (popcount (c &&& mask wl) % 2 == 1)

/-- `apply_parity(f, c)`: the data bits and the parity bit of a transmitted character (R172). -/
def applyParity (f : Format) (c : Byte) : Byte × Bool :=
  let d := c &&& mask f.wlen
  (d, if f.par = .none then false else parityBit d f.wlen (f.par = .odd))

/-- `check_parity(f, r)` of a received word (R173). -/
def checkParity (f : Format) (r : Word) : Bool :=
  if f.par = .none then true
  else r.getLsbD 8 == parityBit (r.extractLsb' 0 8 &&& mask f.wlen) f.wlen (f.par = .odd)

/-- The code one row of the table gives under one oscillator (R176). -/
def rowCode (row : Config.BaudRow) : Config.Crystal → Option (BitVec 4)
  | .slow => row.slow
  | .fast => row.fast

/-- `baud_to_chip_code(b, x)`, the total lookup in `BAUD_TABLE` (R175). -/
def baudToChipCode (table : Config.BaudTable) (b : Nat) (x : Config.Crystal) : Option (BitVec 4) :=
  (table.find? fun row => row.rate == b).bind fun row => rowCode row x

/-- The lookup with a Port's own table and oscillator (R6, R175). -/
def codeOf (p : Config.Board) (b : Nat) : Option (BitVec 4) := baudToChipCode p.baudTable b p.crystal

/-- The preconditions of R355 on the parameters; that one of the activation sources exists is in the type `Activation`. -/
def boardOk (p : Config.Board) : Bool :=
  decide (2 ≤ p.xmitCap) && decide (1 ≤ p.rxDrainMax) && decide (1 ≤ p.sinkAttempts) &&
    (codeOf p p.defaultFormat.baud).isSome

/-- Data bits per character. -/
def WordLen.bits : WordLen → Nat
  | .seven => 7
  | .eight => 8

/-- Stop bits per character. -/
def StopBits.bits : StopBits → Nat
  | .one => 1
  | .two => 2

/-- `bits_per_char(f)`: start, data, parity and stop bits (R178). -/
def bitsPerChar (f : Format) : Nat :=
  1 + WordLen.bits f.wlen + (if f.par = .none then 0 else 1) + StopBits.bits f.stop

/-- `bit_time(b)` in nanoseconds, floor division (R200). -/
def bitTime (baud : Nat) : Nat := Config.nsecPerSec / baud

/-- `hold_ns(f)` in nanoseconds (R201). -/
def holdNs (f : Format) : Nat := bitTime f.baud * bitsPerChar f

/-- `DEFAULT_FORMAT` with its code from `BAUD_TABLE` (R6, R26). By R355 the table has a code for this rate. -/
def defaultFormat (p : Config.Board) : Format :=
  { baud := p.defaultFormat.baud
    code := (codeOf p p.defaultFormat.baud).getD 0
    wlen := p.defaultFormat.wlen, par := p.defaultFormat.par, stop := p.defaultFormat.stop }

/-- The rate and code of a request, or the staged ones where the rate is not in the table (R175, R179). -/
def resolveBaud (p : Config.Board) (b : Nat) (g : Format) : (Nat × BitVec 4) × List Fallback :=
  match codeOf p b with
  | some c => ((b, c), [])
  | none => ((g.baud, g.code), [.baud b])

/-- The word length of a request, or the staged one (R179, R180). -/
def resolveWlen (n : Nat) (g : Format) : WordLen × List Fallback :=
  if n = 7 then (.seven, []) else if n = 8 then (.eight, []) else (g.wlen, [.wlen n])

/-- The parity mode of a request, or the staged one (R179, R182). -/
def resolvePar (p : ReqParity) (g : Format) : Parity × List Fallback :=
  match p with
  | .mode m => (m, [])
  | .other => (g.par, [.par])

/-- The stop bits of a request, or the staged ones (R179, R183). -/
def resolveStop (n : Nat) (g : Format) : StopBits × List Fallback :=
  if n = 1 then (.one, []) else if n = 2 then (.two, []) else (g.stop, [.stop n])

/-- `resolve(req, g)`: the new staged format, and the fields that fell back in the order R179 raises them. -/
def resolve (board : Config.Board) (baud wlen : Nat) (par : ReqParity) (stop : Nat) (g : Format) :
    Format × List Fallback :=
  let b := resolveBaud board baud g
  let w := resolveWlen wlen g
  let p := resolvePar par g
  let st := resolveStop stop g
  ({ baud := b.1.1, code := b.1.2, wlen := w.1, par := p.1, stop := st.1 }, b.2 ++ w.2 ++ p.2 ++ st.2)

end Sys2Proof.Machine
end

