-- ==== Sys2Proof/Machine/State.lean ====
section
/-!
DEFINITION. The state of one Port (spec/10_state.md R20 to R48), the device register the block writes (R337), and the
environment's side: what it will do next, and what it has seen. Every field is plain data.
-/

namespace Sys2Proof.Machine

/-- The lifecycle state (R21). -/
inductive LineState where
  | shutdown
  | starting
  | active
  | suspending
  | suspended
deriving DecidableEq, Repr, Inhabited

/-- What the driver-enable line was last commanded to be (R22). -/
inductive DEState where
  | off
  | on
  | unknown
deriving DecidableEq, Repr, Inhabited

/-- The flag of a received character (R23). -/
inductive RxFlag where
  | normal
  | parityError
  | framingError
deriving DecidableEq, Repr, Inhabited

/-- A received character (R23). -/
structure RxChar where
  ch   : Byte
  flag : RxFlag
deriving DecidableEq, Repr, Inhabited

/-- The worker's program position (R24); `endPass` is the spec's `End`. That `k` stays below `RX_DRAIN_MAX`, a parameter, is part
of the invariant (`Inv`, Safety.lean). -/
inductive Phase where
  | exited
  | parked
  | top
  | drain (k : Nat)
  | tx
  | endPass
deriving DecidableEq, Repr, Inhabited

/-- The recorded outcome of a deferred disable (R37). -/
inductive DisableOutcome where
  | applied
  | superseded
deriving DecidableEq, Repr, Inhabited

/-- The pending flags (R38). -/
structure PendingFlags where
  /-- configuration-commit pending -/
  cfg  : Bool
  /-- driver-disable pending -/
  dis  : Bool
  /-- transaction-pending (interrupt or poll trigger) -/
  txn  : Bool
  /-- transmit-started -/
  txs  : Bool
  /-- receive-pending -/
  rxp  : Bool
  /-- stop requested -/
  stop : Bool
  /-- suspend requested -/
  susp : Bool
  /-- flush requested -/
  fls  : Bool
deriving DecidableEq, Repr, Inhabited

/-- The counters (R48). -/
structure Counters where
  ntx       : Nat
  nrx       : Nat
  nperr     : Nat
  nferr     : Nat
  nxerr     : Nat
  ndrop     : Nat
  nfallback : Nat
  nqfull    : Nat
  nrej      : Nat
deriving DecidableEq, Repr, Inhabited

/-- A host request's name, as a refused request is logged (R273). -/
inductive RequestName where
  | attach | push | openPort | setFormat | flush | stopTx | startTx | close | detach
deriving DecidableEq, Repr, Inhabited

/-- The events a Port logs, with their information (R311). `AttachFailed` (E2) is written to no Port's log: it is the
`attachFailed` reply. -/
inductive Event where
  /-- E1 -/
  | transportError (w : Word) (phase : Phase)
  /-- E3 -/
  | formatFallback (field : Fallback)
  /-- E4 -/
  | rxParityError (ch : Byte)
  /-- E5 -/
  | rxFramingError (ch : Byte)
  /-- E6 -/
  | rxDropped (n : Nat)
  /-- E7 -/
  | requestNotAccepted (q : RequestName) (line : LineState)
  /-- E8 -/
  | queueFull (n : Nat)
deriving DecidableEq, Repr, Inhabited

/-- A log entry `(code, info, t)` (R311). -/
structure LogEntry where
  event : Event
  time  : Nat
deriving DecidableEq, Repr, Inhabited

/-- The result of a host request (R270). -/
inductive Reply where
  | ok
  | notAccepted
  | attachFailed
  | queued (n : Nat)
  | modem (cts dsr dcd : Bool)
  | txEmpty (b : Bool)
deriving DecidableEq, Repr, Inhabited

/-- One line of the bus trace, `w -> r` or `w -> Err` (R117). -/
structure Exchange where
  out    : Word
  answer : Answer
deriving DecidableEq, Repr, Inhabited

/-- What is known of the chip's configuration register, bits 13 to 0 of the last word written to it (R337). -/
inductive ChipConfig where
  | unknown
  | known (bits : BitVec 14)
deriving DecidableEq, Repr, Inhabited

/-- The queue's memory: slot and byte, slots strictly rising. A slot nothing has written is not listed and holds no value
(R31, I14). -/
abbrev Memory := List Host.Cell

/-- The environment's side, the model's own fields. The three scripts say what the environment does next; where a script is
empty the answer is a free value of Config, numbered by `draws`. The three records say what it has seen (R341). -/
structure Env where
  /-- which agent moves next, and after it -/
  agenda  : List Move
  /-- the next answers of the bus (R140) -/
  answers : List Answer
  /-- how many characters the sink takes at its next calls (R151) -/
  accepts : List Nat
  /-- how many free values have been drawn -/
  draws   : Nat
  /-- the bus word trace, oldest first (R117, R341) -/
  bus     : List Exchange
  /-- every character the sink has taken, oldest first (R151) -/
  sink    : List RxChar
  /-- the results returned to the host, oldest first (R270) -/
  replies : List Reply
deriving DecidableEq, Repr, Inhabited

/-- One Port and what surrounds it. The field names are the spec's `S.<f>`; `now` is `S.T`, `pend` groups the flags of R38
and `ctr` the counters of R48. -/
structure State where
  /-- the parameters of this Port (R6) -/
  board    : Config.Board
  /-- a Port exists: attached and not yet detached (R271, R288) -/
  attached : Bool
  /-- R25 -/
  line     : LineState
  /-- the active format (R26) -/
  fmt      : Format
  /-- the staged format (R27) -/
  stg      : Format
  /-- `hold_ns` of the active format, in nanoseconds (R28) -/
  hold     : Nat
  /-- clear-to-send (R29) -/
  cts      : Bool
  /-- transmit-register-empty (R29) -/
  txe      : Bool
  /-- receive-data-available (R29) -/
  rxa      : Bool
  /-- driver-enable state (R30) -/
  de       : DEState
  /-- the queue's slots `S.Q` (R31) -/
  mem      : Memory
  /-- write position, below `XMIT_CAP` (R31; kept by `Inv`) -/
  head     : Nat
  /-- read position, below `XMIT_CAP` (R31; kept by `Inv`) -/
  tail     : Nat
  /-- the queue is marked stopped (R32) -/
  txstop   : Bool
  /-- last transmit completion (R34) -/
  tc       : Nat
  /-- keep-enabled-until deadline (R35) -/
  dl       : Nat
  /-- the one-shot: disarmed, or due at a time (R36) -/
  os       : Option Nat
  /-- outcome of the last deferred disable (R37) -/
  outcome  : Option DisableOutcome
  /-- pending flags (R38) -/
  pend     : PendingFlags
  /-- wake latch (R41) -/
  wake     : Bool
  /-- R42 -/
  phase    : Phase
  /-- activation sources armed (R43) -/
  armed    : Bool
  /-- the current pass saw a transport failure (R44) -/
  fail     : Bool
  /-- the clock `S.T`, in nanoseconds (R45) -/
  now      : Nat
  /-- when the poll timer may fire next (R46) -/
  npoll    : Nat
  /-- receive buffer (R47) -/
  rxbuf    : List RxChar
  /-- R48 -/
  ctr      : Counters
  /-- event log, oldest first (R48, R311) -/
  log      : List LogEntry
  /-- the chip's configuration register as far as it is known (R337) -/
  chip     : ChipConfig
  /-- the environment's side (the model's own) -/
  env      : Env
deriving DecidableEq, Repr

/-- The environment with nothing scripted and nothing seen. -/
def Env.initial : Env :=
  { agenda := [], answers := [], accepts := [], draws := 0, bus := [], sink := [], replies := [] }

/-- No flag pending (R38). -/
def PendingFlags.none : PendingFlags :=
  { cfg := false, dis := false, txn := false, txs := false, rxp := false, stop := false, susp := false, fls := false }

/-- Every counter 0 (R48). -/
def Counters.zero : Counters :=
  { ntx := 0, nrx := 0, nperr := 0, nferr := 0, nxerr := 0, ndrop := 0, nfallback := 0, nqfull := 0, nrej := 0 }

/-- The reset state of R350 for given parameters, clock draw and environment: the Port right after device attach. -/
def State.resetWith (b : Config.Board) (clock : Nat) (e : Env) : State :=
  { board := b, attached := true, line := .shutdown
    fmt := defaultFormat b, stg := defaultFormat b, hold := holdNs (defaultFormat b)
    cts := false, txe := false, rxa := false, de := .off
    mem := [], head := 0, tail := 0, txstop := false
    tc := 0, dl := 0, os := none, outcome := none
    pend := PendingFlags.none, wake := false, phase := .exited, armed := false, fail := false
    now := clock, npoll := 0, rxbuf := [], ctr := Counters.zero, log := []
    chip := .unknown, env := e }

/-- The machine right after reset (R350): the open parameters and the clock draw are free values of Config, and nothing is
scripted. -/
def State.reset : State := State.resetWith Config.board Config.bootTime Env.initial

/-- Why the machine stops with a fault. -/
inductive Fault where
  /-- Raised by the worker's transmit step when the queue slot at the read position was never written (R31: "never read before
  they are written"; I14). Safe: the model stops where hardware would send some byte, and a reachable state never raises it. -/
  | unwrittenSlot
deriving DecidableEq, Repr

/-- Why the machine refuses an instruction. -/
inductive Refusal where
  /-- Raised by `exec` for an instruction without a meaning. None is left. Safe: nothing can be proved of what it would do. -/
  | notModelled (mnemonic : String)
  /-- Raised by the meaning of RC: the sequencer has no step that issues it (R108, R152, I15). Safe: the model stops. -/
  | neverIssued
  /-- Raised by `step` when a word the worker assembled decodes to no row of the opcode table. Safe: it stops, and no assembled
  word does. -/
  | undecodable
deriving DecidableEq, Repr

end Sys2Proof.Machine
end

