-- ==== Sys2Proof/Machine/Operands.lean ====
section
/-!
DEFINITION. Operand forms: how an outgoing word is assembled from a transaction kind (R109, R113), and which fields are read
from a response (R110 to R112, R114).
-/

namespace Sys2Proof.Machine

/-- `ST(f)` (R109). -/
def stBit (f : Format) : Bool := f.stop = .two

/-- `PE(f)` (R109). -/
def peBit (f : Format) : Bool := f.par ≠ .none

/-- `L(f)` (R109). -/
def lBit (f : Format) : Bool := f.wlen = .seven

/-- A Boolean as the bit `i` of a word. -/
def bitAt (b : Bool) (i : Nat) : Word := (BitVec.ofBool b).setWidth 16 <<< i

/-- `enc(k)`, by R109's formula. -/
def enc : Txn → Word
  | .cfg f => 0xC400#16 ||| bitAt (stBit f) 6 ||| bitAt (peBit f) 5 ||| bitAt (lBit f) 4 ||| f.code.setWidth 16
  | .pwrdn f =>
    0xC400#16 ||| bitAt (stBit f) 6 ||| bitAt (peBit f) 5 ||| bitAt (lBit f) 4 ||| f.code.setWidth 16 ||| 0x1000#16
  | .rd => 0x0000#16
  | .txd f c =>
    0x8000#16 ||| 0x0200#16 ||| bitAt (applyParity f c).2 8 ||| (applyParity f c).1.setWidth 16
  | .deoff => 0x8400#16

/-- The instruction whose word a transaction kind assembles to (R109, R113). -/
def instrOf : Txn → Instr
  | .cfg f => .cfg (stBit f) (peBit f) (lBit f) f.code
  | .pwrdn f => .pwrdn (stBit f) (peBit f) (lBit f) f.code
  | .rd => .rd
  | .txd f c => .txd (applyParity f c).2 (applyParity f c).1
  | .deoff => .deoff

/-- R, receive-data-available, of a response (R110). -/
def respR (r : Word) : Bool := r.getLsbD 15

/-- T, transmit-register-empty, of a response (R110). -/
def respT (r : Word) : Bool := r.getLsbD 14

/-- FE, the framing indication of a data-class response (R111). -/
def respFE (r : Word) : Bool := r.getLsbD 10

/-- CTS of a data-class response (R111). -/
def respCTS (r : Word) : Bool := r.getLsbD 9

/-- D, the character of a data-class response under a word length (R111, R114). -/
def respD (wl : WordLen) (r : Word) : Byte := r.extractLsb' 0 8 &&& mask wl

/-- `classify(r)` under the active format (R144). -/
def classify (feReport : Bool) (f : Format) (r : Word) : RxChar :=
  { ch := respD f.wlen r
    flag :=
      if feReport && respFE r then .framingError
      else if f.par ≠ .none ∧ checkParity f r = false then .parityError
      else .normal }

end Sys2Proof.Machine
end

