-- ==== Sys2Proof/Machine/Flags.lean ====
section
/-!
DEFINITION. Status and flag computations: the mirrored chip status (R141, R142), and the producers' set-and-wake and the
worker's take-and-clear of the pending flags (R38 to R41, R81).
-/

namespace Sys2Proof.Machine

/-- `decode_status(r)`, for every successful exchange (R141). -/
def decodeStatus (r : Word) (s : State) : State :=
  { s with txe := respT r, rxa := respR r }

/-- `decode_data(r)`, for every successful data-class exchange (R142). -/
def decodeData (r : Word) (s : State) : State :=
  { s with cts := respCTS r }

/-- A producer's set-and-wake: change the flags and set the wake latch in one step (R81). -/
def setAndWake (f : PendingFlags → PendingFlags) (s : State) : State :=
  { s with pend := f s.pend, wake := true }

/-- Change the pending flags and nothing else: the worker's take-and-clear, or its setting a flag again (R40). -/
def setPend (f : PendingFlags → PendingFlags) (s : State) : State :=
  { s with pend := f s.pend }

/-- The flags that keep the worker looping at `End` (R244). -/
def PendingFlags.any (p : PendingFlags) : Bool :=
  p.stop || p.susp || p.dis || p.cfg || p.txn || p.txs || p.rxp || p.fls

/-- `S.stop or S.susp`, what preempts a drain and the transmit loop (R241, R243). -/
def PendingFlags.preempts (p : PendingFlags) : Bool := p.stop || p.susp

end Sys2Proof.Machine
end

