-- ==== Sys2Proof/Machine/Ops.lean ====
section
/-!
DEFINITION. The named operations every rule is written with: the log and the phase (R9), the outgoing queue (R31, R78), the
bus exchange (R140), delivery to the sink (R151), capture of a received character (R143), the one shared failure entry
`fail_exchange` (R140), entering and leaving an activation (R324, R325), and the environment's next choices.
-/

namespace Sys2Proof.Machine

/-- `raise E(info)` (R9, R310). -/
def raise (e : Event) (s : State) : State :=
  { s with log := s.log ++ [{ event := e, time := s.now }] }

/-- The code of an event (R311). E2, `AttachFailed`, is in no Port's log. -/
def eventCode : Event → Nat
  | .transportError _ _ => 1
  | .formatFallback _ => 3
  | .rxParityError _ => 4
  | .rxFramingError _ => 5
  | .rxDropped _ => 6
  | .requestNotAccepted _ _ => 7
  | .queueFull _ => 8

/-- `goto P` (R9). -/
def goto (p : Phase) (s : State) : State := { s with phase := p }

/-! ### The outgoing queue -/

/-- What one slot holds; an unlisted slot holds no value. -/
def Memory.read : Memory → Nat → Option Byte
  | [], _ => none
  | (k, b) :: m, a => if k = a then some b else Memory.read m a

/-- Write one slot and keep the slots strictly rising. -/
def Memory.write : Memory → Nat → Byte → Memory
  | [], a, v => [(a, v)]
  | (k, b) :: m, a, v =>
    if a < k then (a, v) :: (k, b) :: m
    else if a = k then (a, v) :: m
    else (k, b) :: Memory.write m a v

/-- The canonical form: slots strictly rising, each below the capacity (R31). An unlisted slot has no value, so no entry can
equal it. -/
def Memory.wf (cap : Nat) : Memory → Bool
  | [] => true
  | (k, _) :: m =>
    decide (k < cap) && (match m with | [] => true | (k', _) :: _ => decide (k < k')) && Memory.wf cap m

/-- `count(S)`, bytes queued: the difference of the positions modulo the capacity, which is added first because positions are
naturals (R31). -/
def qCount (s : State) : Nat := (s.head + s.board.xmitCap - s.tail) % s.board.xmitCap

/-- `empty(S)` (R31). -/
def qEmpty (s : State) : Bool := s.head = s.tail

/-- The position after `n` more slots, modulo the capacity (R31). -/
def advance (n i : Nat) (s : State) : Nat := (i + n) % s.board.xmitCap

/-- `full(S)` (R31). -/
def qFull (s : State) : Bool := qCount s = s.board.xmitCap - 1

/-- `MemRead(S.tail, 1)` (R9, R78). -/
def readTail (s : State) : Option Byte := s.mem.read s.tail

/-- `MemWrite((a + i) mod cap, 1, L[i])` for each byte of a list, from slot `a` on (R272). -/
def writeSlots (cap : Nat) : Memory → Nat → List Byte → Memory
  | m, _, [] => m
  | m, a, b :: bs => writeSlots cap (m.write (a % cap) b) (a + 1) bs

/-! ### What the environment does next -/

/-- The answer of the next exchange: the script's, or a free value where there is none (R140, I7, I8). -/
def nextAnswer (e : Env) : Answer :=
  match e.answers with
  | [] => Config.freeAnswer e.draws
  | a :: _ => a

/-- The environment after it has answered one exchange of the word `w`: the trace grows by one line (R117). -/
def afterAnswer (w : Word) (e : Env) : Env :=
  match e.answers with
  | [] => { e with draws := e.draws + 1, bus := e.bus ++ [{ out := w, answer := Config.freeAnswer e.draws }] }
  | a :: rest => { e with answers := rest, bus := e.bus ++ [{ out := w, answer := a }] }

/-- How many characters the sink would take at its next call, before the cut to the list's length (R151, I10). -/
def nextAccept (e : Env) : Nat :=
  match e.accepts with
  | [] => Config.freeAccept e.draws
  | n :: _ => n

/-- The environment after one sink call that took the characters `taken` (R151). -/
def afterAccept (taken : List RxChar) (e : Env) : Env :=
  match e.accepts with
  | [] => { e with draws := e.draws + 1, sink := e.sink ++ taken }
  | _ :: rest => { e with accepts := rest, sink := e.sink ++ taken }

/-- The agent that moves next: the script's, or a free value (R80, I19). -/
def nextMove (e : Env) : Move :=
  match e.agenda with
  | [] => Config.freeMove e.draws
  | m :: _ => m

/-- The environment after it has chosen the next agent. -/
def afterMove (e : Env) : Env :=
  match e.agenda with
  | [] => { e with draws := e.draws + 1 }
  | _ :: rest => { e with agenda := rest }

/-- Return a result to the host (R270). -/
def reply (r : Reply) (s : State) : State :=
  { s with env := { s.env with replies := s.env.replies ++ [r] } }

/-! ### The bus exchange -/

/-- What is known of the chip's configuration register after an exchange of `w` (R337): a successful configuration write
defines bits 13 to 0, a failed exchange leaves it unknown, any other exchange leaves it. -/
def chipAfter (w : Word) (a : Answer) (c : ChipConfig) : ChipConfig :=
  match a with
  | .err => .unknown
  | .ok _ => if tagOf w = 0b11#2 then .known (w.extractLsb' 0 14) else c

/-- The state after the exchange itself, before its answer is acted on (R140). -/
def exchanged (w : Word) (s : State) : State :=
  { s with env := afterAnswer w s.env, chip := chipAfter w (nextAnswer s.env) s.chip }

/-- `fail_exchange(w, F)`, the one effect of an `Err`; `again` sets the flags of `F` (R140, R242). -/
def failExchange (w : Word) (again : PendingFlags → PendingFlags) (s : State) : State :=
  let s := raise (.transportError w s.phase) s
  { s with ctr := { s.ctr with nxerr := s.ctr.nxerr + 1 }, fail := true, pend := again s.pend, phase := .endPass }

/-- `Exchange(w)` with what follows each answer: `onOk r` after `Ok(r)`, `onErr` after `Err` (R9, R140). -/
def exchange (w : Word) (onErr : State → State) (onOk : Word → State → State) (s : State) : State :=
  match nextAnswer s.env with
  | .err => onErr (exchanged w s)
  | .ok r => onOk r (exchanged w s)

/-! ### The receive path -/

/-- The loop of `deliver()`: at most `n` offers of what is left, each taking some leading characters (R151). -/
def offer : Nat → List RxChar → Env → List RxChar × Env
  | 0, l, e => (l, e)
  | _ + 1, [], e => ([], e)
  | n + 1, c :: l, e =>
    let k := min (nextAccept e) (c :: l).length
    offer n ((c :: l).drop k) (afterAccept ((c :: l).take k) e)

/-- `deliver()` (R151). -/
def deliver (s : State) : State :=
  let o := offer s.board.sinkAttempts s.rxbuf s.env
  let s := { s with env := o.2, rxbuf := [] }
  if o.1 = [] then s
  else raise (.rxDropped o.1.length) { s with ctr := { s.ctr with ndrop := s.ctr.ndrop + o.1.length } }

/-- Count a received character by its flag, and log a bad one (R143). -/
def countRx (c : RxChar) (s : State) : State :=
  match c.flag with
  | .normal => { s with ctr := { s.ctr with nrx := s.ctr.nrx + 1 } }
  | .parityError => raise (.rxParityError c.ch) { s with ctr := { s.ctr with nperr := s.ctr.nperr + 1 } }
  | .framingError => raise (.rxFramingError c.ch) { s with ctr := { s.ctr with nferr := s.ctr.nferr + 1 } }

/-- Append the response's character to the receive buffer, counted under its flag (R143, R144). -/
def collect (r : Word) (s : State) : State :=
  let c := classify s.board.feReport s.fmt r
  countRx c { s with rxbuf := s.rxbuf ++ [c] }

/-- `capture(r, in_drain)` (R143). -/
def capture (r : Word) (inDrain : Bool) (s : State) : State :=
  if respR r then
    if inDrain then collect r s
    else deliver (setPend (fun p => { p with rxp := true }) (collect r s))
  else s

/-! ### The timing controller's bookkeeping -/

/-- `record_tx(t)`: note the completion and extend the deadline (R204). -/
def recordTx (t : Nat) (s : State) : State :=
  { s with tc := t, dl := if t < s.dl then s.dl + s.hold else t + s.hold }

/-- Arming of the one-shot at `End` (R206). -/
def armCheck (s : State) : State :=
  if qEmpty s ∧ s.de ≠ .off ∧ s.os = none ∧ s.pend.dis = false ∧ s.line = .active then
    { s with os := some s.dl }
  else s

/-! ### Entering and leaving an activation -/

/-- Entry: the `Parked` step (R232, R324). -/
def takeActivation (s : State) : State :=
  { s with wake := false, fail := false, phase := .top }

/-- Whether `End` goes back to `Top`: the pass did not fail, the line is not suspended, and work remains (R244). -/
def loops (s : State) : Bool :=
  !(s.fail || s.line = .suspended) && (s.pend.any || (!qEmpty s && !s.txstop))

/-- Return, or another pass: the `End` step (R244, R325). The line may be `Active` here although the suspend step, or a `Top`
halted by R239, led to this `End`, when the host resumed in between; R244 and R206 are then followed as they stand, against derived
sentences of R245, R343 and R354 (DEDUCED, log entry 9). -/
def endStep (s : State) : State :=
  let s := armCheck (deliver s)
  if loops s then goto .top s else goto .parked s

end Sys2Proof.Machine
end

