-- ==== Sys2Proof/Machine/Transactions.lean ====
section
/-!
DEFINITION. The meaning of each bus word: what the worker step that issues it does to the Port
(spec/40_transaction_engine.md R145 to R149, R152, with the parts of R237, R238 and R241 that follow the exchange inside the
same atomic step). The word on the bus is the instruction's own; which word is issued when is Machine/Worker.lean's.
-/

namespace Sys2Proof.Machine

/-! ### CFG -/

/-- CFG after `Ok(r)` (R146): the staged format `f`, read before the exchange, becomes the active one. -/
def cfgOk (f : Format) (r : Word) (s : State) : State :=
  let s := decodeStatus r { s with fmt := f, hold := holdNs f }
  let s := setPend (fun p => { p with rxp := p.rxp || respR r }) s
  goto .top { s with line := if s.line = .starting then .active else s.line }

/-- CFG, the configuration commit (R146). -/
def commit (w : Word) (s : State) : State :=
  let f := s.stg
  exchange w (failExchange w fun p => { p with cfg := true }) (cfgOk f) (setPend (fun p => { p with cfg := false }) s)

/-- The meaning of CFG (R146). The operands are the word's fields; the format committed is the staged one. -/
def execCfg (st pe l : Bool) (b : BitVec 4) (s : State) : Host.Outcome State Fault Refusal :=
  .next (commit (encode (.cfg st pe l b)) s)

/-! ### PWRDN -/

/-- The end of the stop sequence, after its exchange (R237). It clears the wake latch at `Top`, as R237 and R352 say, where R41 and
R327 let the worker clear it only when it leaves `Parked` (DEDUCED, log entry 15). -/
def stopped (s : State) : State :=
  goto .exited
    { s with os := none, armed := false, pend := PendingFlags.none, wake := false, tail := s.head
             de := .unknown, line := .shutdown }

/-- The stop sequence's power-down failed: logged with phase `Top`, counted, not retried (R237). -/
def stopFailed (w : Word) (s : State) : State :=
  let s := raise (.transportError w .top) s
  { s with ctr := { s.ctr with nxerr := s.ctr.nxerr + 1 } }

/-- The stop sequence (R237). -/
def stopSequence (w : Word) (s : State) : State :=
  exchange w (fun t => stopped (stopFailed w t)) (fun r t => stopped (decodeStatus r t)) s

/-- The suspend step after `Ok(r)` (R238). It clears the disable flag, as R238 says; R38's table does not list this (DEDUCED, log
entry 15). -/
def suspendOk (r : Word) (s : State) : State :=
  let s := setPend (fun p => { p with susp := false, dis := false }) (decodeStatus r s)
  goto .endPass { s with os := none, de := .unknown, armed := false, line := .suspended }

/-- The suspend step (R238). -/
def suspendStep (w : Word) (s : State) : State :=
  exchange w (failExchange w fun p => { p with susp := true }) suspendOk s

/-- PWRDN with neither request pending: the common part of R149 alone, with the unknown driver enable any power-down word leaves
(R22, D36). No step of the worker reaches it. -/
def powerDown (w : Word) (s : State) : State :=
  exchange w (failExchange w fun p => p) (fun r t => { decodeStatus r t with de := .unknown }) s

/-- The meaning of PWRDN (R149): the invoking rule is the stop sequence (R237) or the suspend step (R238), in the order of
R234. -/
def execPwrdn (st pe l : Bool) (b : BitVec 4) (s : State) : Host.Outcome State Fault Refusal :=
  .next
    (if s.pend.stop then stopSequence (encode (.pwrdn st pe l b)) s
     else if s.pend.susp then suspendStep (encode (.pwrdn st pe l b)) s
     else powerDown (encode (.pwrdn st pe l b)) s)

/-! ### RD -/

/-- Where a drain goes after its response `r` (R241). Outside a drain nothing follows. -/
def drainNext (r : Word) (s : State) : State :=
  match s.phase with
  | .drain k =>
    if respR r = false then goto .tx (deliver s)
    else if k + 1 < s.board.rxDrainMax then goto (.drain (k + 1)) s
    else goto .tx (deliver (setPend (fun p => { p with rxp := true }) s))
  | _ => s

/-- RD after `Ok(r)` (R145, R241). -/
def rdOk (r : Word) (s : State) : State :=
  drainNext r (capture r true (decodeData r (decodeStatus r s)))

/-- RD, one receive read (R145). -/
def readData (w : Word) (s : State) : State :=
  exchange w (failExchange w fun p => { p with txn := true }) rdOk s

/-- The meaning of RD (R145). -/
def execRd (s : State) : Host.Outcome State Fault Refusal :=
  .next (readData (encode .rd) s)

/-! ### TXD -/

/-- A transmit cancels the deferred disable, armed or pending (R147, R209). -/
def cancelDisable (s : State) : State :=
  { s with outcome := if s.os ≠ none ∨ s.pend.dis = true then some .superseded else s.outcome
           os := none, pend := { s.pend with dis := false } }

/-- TXD after `Ok(r)` (R147). -/
def txdOk (r : Word) (s : State) : State :=
  let t := s.now
  let s := { s with tail := advance 1 s.tail s, ctr := { s.ctr with ntx := s.ctr.ntx + 1 }, de := .on }
  let s := recordTx t (cancelDisable s)
  goto .tx (capture r false (decodeData r (decodeStatus r s)))

/-- TXD, transmit one character (R147). -/
def transmit (w : Word) (s : State) : State :=
  exchange w (failExchange w fun p => { p with txn := true }) txdOk s

/-- The meaning of TXD (R147). The word carries the character; the Port's effect is the same for every character. -/
def execTxd (pt : Bool) (d : Byte) (s : State) : Host.Outcome State Fault Refusal :=
  .next (transmit (encode (.txd pt d)) s)

/-! ### DEOFF -/

/-- DEOFF after `Ok(r)` (R148). -/
def deoffOk (r : Word) (s : State) : State :=
  let s := { s with de := .off, outcome := some .applied }
  goto .top (capture r false (decodeData r (decodeStatus r s)))

/-- DEOFF, drop the driver enable (R148). -/
def dropEnable (w : Word) (s : State) : State :=
  exchange w (failExchange w fun p => { p with dis := true }) deoffOk s

/-- The meaning of DEOFF (R148). -/
def execDeoff (s : State) : Host.Outcome State Fault Refusal :=
  .next (dropEnable (encode .deoff) s)

/-! ### RC -/

/-- The meaning of RC: never issued, the word is not accepted (R108, R152; I15: refuse). -/
def execRc (_ : State) : Host.Outcome State Fault Refusal :=
  .refused .neverIssued

end Sys2Proof.Machine
end

