-- ==== Sys2Proof/Machine/Dispatch.lean ====
section
/-!
DEFINITION. One arm per row of spec/opcode_table.json, each a direct call of that row's meaning.
-/

namespace Sys2Proof.Machine

def exec (i : Instr) (s : State) : Host.Outcome State Fault Refusal :=
  match i with
  | .cfg st pe l b => Sys2Proof.Machine.execCfg st pe l b s
  | .pwrdn st pe l b => Sys2Proof.Machine.execPwrdn st pe l b s
  | .rd => Sys2Proof.Machine.execRd s
  | .txd pt d => Sys2Proof.Machine.execTxd pt d s
  | .deoff => Sys2Proof.Machine.execDeoff s
  | .rc => Sys2Proof.Machine.execRc s

end Sys2Proof.Machine
end

