-- ==== Sys2Proof/Machine/Line.lean ====
section
/-!
DEFINITION. The host's requests and the lifecycle they drive (spec/44_line_state.md R270 to R291). Each is one atomic step,
sets producer-owned fields and flags, and returns a result; none touches the bus.
-/

namespace Sys2Proof.Machine

/-- `refuse(q)` and the result `r` of a refused request (R273). -/
def refuseWith (q : RequestName) (r : Reply) (s : State) : State :=
  let s := raise (.requestNotAccepted q s.line) s
  reply r { s with ctr := { s.ctr with nrej := s.ctr.nrej + 1 } }

/-- A refused request that returns `NotAccepted` (R273). -/
def refuse (q : RequestName) (s : State) : State := refuseWith q .notAccepted s

/-- The states in which push, flush, flow control and close act (R291). -/
def acceptsWork (s : State) : Bool := !(s.line = .shutdown || s.pend.stop)

/-- When the poll timer may fire first after an arming (R274, R284). -/
def pollRestart (s : State) : Nat :=
  match s.board.activation.pollPeriod with
  | some p => s.now + p
  | none => s.npoll

/-- attach with no Port: create it in the reset state, or report that the activation source is unavailable (R271, R313). -/
def attachPort (available : Bool) (clock : Nat) (s : State) : State :=
  if available then reply .ok (State.resetWith s.board clock s.env)
  else reply .attachFailed s

/-- The queueing part of push, for the `n` leading bytes that fit (R272). -/
def enqueue (n : Nat) (l : List Byte) (s : State) : State :=
  { s with mem := writeSlots s.board.xmitCap s.mem s.head (l.take n)
           head := advance n s.head s }

/-- The overflow part of push: count and log what did not fit (R272). -/
def noteFull (short : Nat) (s : State) : State :=
  if short = 0 then s
  else raise (.queueFull short) { s with ctr := { s.ctr with nqfull := s.ctr.nqfull + short } }

/-- push (R272). -/
def push (l : List Byte) (s : State) : State :=
  if acceptsWork s then
    let n := min l.length (s.board.xmitCap - 1 - qCount s)
    let s := noteFull (l.length - n) (enqueue n l s)
    reply (.queued n) (if n = 0 then s else setAndWake (fun p => { p with txs := true }) s)
  else refuseWith .push (.queued 0) s

/-- open (R274). -/
def openPort (s : State) : State :=
  if s.line = .shutdown then
    let s := { s with line := .starting, txstop := false, armed := true, npoll := pollRestart s, phase := .parked }
    reply .ok (setAndWake (fun p => { p with cfg := true }) s)
  else refuse .openPort s

/-- One fallback: logged and counted (R179, R314). -/
def noteFallback (s : State) (f : Fallback) : State :=
  raise (.formatFallback f) { s with ctr := { s.ctr with nfallback := s.ctr.nfallback + 1 } }

/-- set_format (R276). -/
def setFormat (baud wlen : Nat) (par : ReqParity) (stop : Nat) (s : State) : State :=
  if s.line = .active ∧ s.pend.stop = false then
    let r := resolve s.board baud wlen par stop s.stg
    let s := { r.2.foldl noteFallback s with stg := r.1 }
    reply .ok (setAndWake (fun p => { p with cfg := true }) s)
  else refuse .setFormat s

/-- flush (R278). -/
def flush (s : State) : State :=
  if acceptsWork s then reply .ok (setAndWake (fun p => { p with fls := true, txn := true }) s)
  else refuse .flush s

/-- stop_tx (R279). -/
def stopTx (s : State) : State :=
  if acceptsWork s then reply .ok { s with txstop := true } else refuse .stopTx s

/-- start_tx (R280). -/
def startTx (s : State) : State :=
  if acceptsWork s then reply .ok (setAndWake (fun p => { p with txs := true }) { s with txstop := false })
  else refuse .startTx s

/-- query_modem: the cached clear-to-send, and DSR and DCD always asserted (R281). -/
def queryModem (s : State) : State := reply (.modem s.cts true true) s

/-- query_txe (R281). -/
def queryTxe (s : State) : State := reply (.txEmpty (qEmpty s && s.txe)) s

/-- suspend (R282). -/
def suspend (s : State) : State :=
  if (s.line = .starting ∨ s.line = .active) ∧ s.pend.stop = false then
    reply .ok (setAndWake (fun p => { p with susp := true }) { s with line := .suspending })
  else reply .ok s

/-- resume (R284). A resume while the worker is at `End`: log entry 9. -/
def resume (s : State) : State :=
  if s.pend.stop then reply .ok s
  else
    match s.line with
    | .suspended =>
      let s := { s with line := .active, armed := true, npoll := pollRestart s }
      reply .ok (setAndWake (fun p => { p with cfg := true }) s)
    | .suspending =>
      reply .ok (setAndWake (fun p => { p with susp := false, cfg := true }) { s with line := .active })
    | _ => reply .ok s

/-- close (R286). -/
def close (s : State) : State :=
  if acceptsWork s then reply .ok (setAndWake (fun p => { p with stop := true }) s) else refuse .close s

/-- detach (R288): the Port is destroyed, and no agent of it takes another step. -/
def detach (s : State) : State :=
  if s.line = .shutdown then reply .ok { s with attached := false } else refuse .detach s

/-- The host's step on an existing Port (R270). -/
def hostStep (r : Request) (s : State) : State :=
  match r with
  | .attach _ _ => refuse .attach s
  | .push l => push l s
  | .openPort => openPort s
  | .setFormat b w p st => setFormat b w p st s
  | .flush => flush s
  | .stopTx => stopTx s
  | .startTx => startTx s
  | .queryModem => queryModem s
  | .queryTxe => queryTxe s
  | .suspend => suspend s
  | .resume => resume s
  | .close => close s
  | .detach => detach s
  | .setMctrl _ => reply .ok s

end Sys2Proof.Machine
end

