-- ==== Sys2Proof/Machine/Sources.lean ====
section
/-!
DEFINITION. The activation sources and the clock (spec/60_exceptions.md R315 to R319, spec/42_timing_controller.md R207), and
the step of every agent but the worker.
-/

namespace Sys2Proof.Machine

/-- The chip interrupt: only with an interrupt line, and lost while the sources are disarmed (R315). -/
def irq (s : State) : State :=
  if s.board.activation.irqPresent && s.armed then
    setAndWake (fun p => { p with txn := true, rxp := true }) s
  else s

/-- The poll timer: armed, and due (R316). -/
def poll (s : State) : State :=
  match s.board.activation.pollPeriod with
  | some p =>
    if s.armed && s.npoll ≤ s.now then
      setAndWake (fun f => { f with txn := true }) { s with npoll := s.now + p }
    else s
  | none => s

/-- The one-shot fires, once due (R207, R317). -/
def fire (s : State) : State :=
  match s.os with
  | some d => if d ≤ s.now then setAndWake (fun p => { p with dis := true }) { s with os := none } else s
  | none => s

/-- The clock advances (R319). -/
def tick (delta : Nat) (s : State) : State := { s with now := s.now + delta }

/-- The step of an agent other than the worker, on an existing Port. A step whose guard does not hold changes nothing (R82). -/
def producerStep (m : Move) (s : State) : State :=
  match m with
  | .worker => s
  | .host r => hostStep r s
  | .irq => irq s
  | .poll => poll s
  | .fire => fire s
  | .tick d => tick d s

/-- While no Port exists, attach is the only request that acts (R271, R288). -/
def detachedStep (m : Move) (s : State) : State :=
  match m with
  | .host (.attach available clock) => attachPort available clock s
  | _ => s

end Sys2Proof.Machine
end

