-- ==== Sys2Proof/Machine/Worker.lean ====
section
/-!
DEFINITION. The worker's phase steps (spec/43_scheduler.md R230 to R244, spec/42_timing_controller.md R208): in each phase,
either a step that touches no bus, or the one transaction the phase issues and the state it issues it from.
-/

namespace Sys2Proof.Machine

/-- What one worker step is: silent, or one transaction issued from a state, or a read of a queue slot that holds no value. -/
inductive Plan where
  | silent (s : State)
  | issue (k : Txn) (s : State)
  | noByte
deriving DecidableEq, Repr

/-- A disable that is not carried out: the outcome is recorded (R208, R210). -/
def supersede (s : State) : State :=
  goto .top { s with outcome := some .superseded }

/-- The disable evaluation, priority item (a) (R208). It looks at the queue as it is now, so within one activation DEOFF can come
between bytes sent before it and a byte pushed after it, against a derived sentence of R246 (DEDUCED, log entry 14). -/
def disableEvaluation (s : State) : Plan :=
  let s := setPend (fun p => { p with dis := false }) s
  if s.pend.txs || !qEmpty s then .silent (supersede { s with os := none })
  else if s.de = .off then .silent (supersede s)
  else if s.now < s.dl then .silent (goto .top { s with os := some s.dl })
  else .issue .deoff s

/-- Start of servicing, item (c): take the flags, and discard the queue if a flush is pending (R240). -/
def startService (s : State) : State :=
  goto (.drain 0)
    { s with tail := if s.pend.fls then s.head else s.tail
             pend := { s.pend with txs := false, txn := false, rxp := false, fls := false } }

/-- `Top`: the first item of the priority order that applies (R234, R236). -/
def topPlan (s : State) : Plan :=
  if s.pend.stop then .issue (.pwrdn s.fmt) s
  else if s.pend.susp then .issue (.pwrdn s.fmt) s
  else if s.line = .suspended then .silent (goto .endPass s)
  else if s.pend.dis then disableEvaluation s
  else if s.pend.cfg then .issue (.cfg s.stg) s
  else if s.line = .active then .silent (startService s)
  else .silent (goto .endPass s)

/-- `Drain(k)` (R241): preempted, or one `RD`. -/
def drainPlan (s : State) : Plan :=
  if s.pend.preempts then .silent (goto .top (deliver s)) else .issue .rd s

/-- `Tx` (R243): preempted, nothing to send, or one `TXD` of the byte at the read position. -/
def txPlan (s : State) : Plan :=
  if s.pend.preempts then .silent (goto .top s)
  else if qEmpty s || s.txstop || !s.txe then .silent (goto .endPass s)
  else
    match readTail s with
    | some c => .issue (.txd s.fmt c) s
    | none => .noByte

/-- The worker's step in each phase (R230). In `Exited`, and in `Parked` without a wake, it has none: nothing changes. -/
def workerPlan (s : State) : Plan :=
  match s.phase with
  | .exited => .silent s
  | .parked => if s.wake then .silent (takeActivation s) else .silent s
  | .top => topPlan s
  | .drain _ => drainPlan s
  | .tx => txPlan s
  | .endPass => .silent (endStep s)

end Sys2Proof.Machine
end

