-- ==== Sys2Proof/Machine/Fetch.lean ====
section
/-!
DEFINITION. How a bus word comes to be issued: the block stores no program, its worker assembles each word from its phase, flags,
formats and queue (R24, R79, R83). `place` sets that much of a state that the worker's next step assembles a given word.
-/

namespace Sys2Proof.Machine

/-- The word of a transaction, read back as an instruction (R109, R101). -/
def fetched (k : Txn) : Except DecodeError Instr := decodeWord (enc k)

/-- A nominal rate that has this code on a board, or the given rate where there is none (R176). -/
def rateFor (p : Config.Board) (b : BitVec 4) (otherwise : Nat) : Nat :=
  match p.baudTable.find? fun row => rowCode row p.crystal == some b with
  | some row => row.rate
  | none => otherwise

/-- A format whose configuration word has the given fields; what the word does not carry is kept where it can be (R109). -/
def formatWith (p : Config.Board) (st pe l : Bool) (b : BitVec 4) (f : Format) : Format :=
  { baud := rateFor p b f.baud
    code := b
    wlen := if l then .seven else .eight
    par := if pe then (if f.par = .none then .even else f.par) else .none
    stop := if st then .two else .one }

/-- A format under which a character goes out with the given parity bit: the present one if it does, else 8 data bits with the
parity mode that gives that bit (R172). -/
def formatSending (pt : Bool) (d : Byte) (f : Format) : Format :=
  if applyParity f d = (d, pt) then f
  else { f with wlen := .eight, par := if pt then (if parityBit d .eight false then .even else .odd) else .none }

/-- The worker at `Top` with nothing of a higher priority than a power-down pending (R234). -/
def atTop (s : State) : State :=
  { s with phase := .top, pend := { s.pend with stop := false, susp := false, dis := false } }

/-- A line that is not halted (R239). -/
def unhalted (l : LineState) : LineState := if l = .suspended then .active else l

/-- The state whose next worker step issues this instruction's word: RC has none (R108), so the state is left as it is. -/
def place (i : Instr) (s : State) : State :=
  match i with
  | .cfg st pe l b =>
    let s := atTop s
    { s with stg := formatWith s.board st pe l b s.stg, line := unhalted s.line
             pend := { s.pend with cfg := true } }
  | .pwrdn st pe l b =>
    let s := atTop s
    { s with fmt := formatWith s.board st pe l b s.fmt, pend := { s.pend with susp := true } }
  | .rd => { atTop s with phase := .drain 0 }
  | .txd pt d =>
    let s := { atTop s with phase := .tx }
    { s with fmt := formatSending pt d s.fmt, txstop := false, txe := true
             mem := s.mem.write s.tail d, head := if s.head = s.tail then advance 1 s.tail s else s.head }
  | .deoff =>
    let s := atTop s
    { s with line := unhalted s.line, tail := s.head, de := if s.de = .off then .on else s.de
             dl := min s.dl s.now, pend := { s.pend with dis := true, txs := false } }
  | .rc => s

end Sys2Proof.Machine
end

