-- ==== Sys2Proof/Machine/Step.lean ====
section
/-!
DEFINITION. One step of the machine: the environment chooses which agent moves (R80), and that agent takes one atomic step.
The worker's step issues at most one bus word, which is decoded and executed (R230).
-/

namespace Sys2Proof.Machine

/-- Carry out what the worker planned: a transaction's word is decoded, and the instruction it is runs (R230). -/
def runPlan (p : Plan) : Host.Outcome State Fault Refusal :=
  match p with
  | .silent s => .next s
  | .noByte => .fault .unwrittenSlot
  | .issue k s =>
    match fetched k with
    | .ok i => exec i s
    | .error _ => .refused .undecodable

/-- The state after the environment has chosen the next agent, before that agent steps. -/
def State.chosen (s : State) : State := { s with env := afterMove s.env }

/-- One step (R5, R80). -/
def step (s : State) : Host.Outcome State Fault Refusal :=
  if s.attached then
    match nextMove s.env with
    | .worker => runPlan (workerPlan s.chosen)
    | m => .next (producerStep m s.chosen)
  else .next (detachedStep (nextMove s.env) s.chosen)

/-- `s` with the worker next on the agenda and everything set from which it assembles the word `w` at that step. A word that
no worker step issues (RC, and what the decoder refuses) has no such state: only the agenda is set. -/
def State.withFetchWord (s : State) (nbits w : Nat) : State :=
  let t := { s with attached := true, env := { s.env with agenda := .worker :: s.env.agenda } }
  match decodeTableWord nbits w with
  | some i => place i t
  | none => t

end Sys2Proof.Machine
end

