-- ==== Sys2Proof/Safety.lean ====
section
/-!
DEFINITION. What counts as a safe state and a safe step, in the terms the statements use: the invariant that every step keeps
(spec/10_state.md R52, R53, with the side facts the spec derives from its rules), the legal lifecycle transitions (R290), and
the acceptance matrix of host requests (R291).
-/

namespace Sys2Proof.Machine

/-- A supported format: its code is the table's for its rate (R26, R181). -/
def FormatOk (p : Config.Board) (f : Format) : Prop := codeOf p f.baud = some f.code

/-- The slot of the i-th queued byte, the next to be sent first (R31, R78). -/
def slotOf (s : State) (i : Nat) : Nat := (s.tail + i) % s.board.xmitCap

/-- How many received characters the buffer may hold in each phase (R24, R47, R143, R241): one per read already made in a drain, fewer
than `RX_DRAIN_MAX` at `End`, none elsewhere. -/
def RxBufOk (s : State) : Prop :=
  match s.phase with
  | .drain k => s.rxbuf.length = k ∧ k < s.board.rxDrainMax
  | .endPass => s.rxbuf.length < s.board.rxDrainMax
  | _ => s.rxbuf = []

/-- The states a Port can be in. Each field is kept by every step. -/
structure Inv (s : State) : Prop where
  /-- the parameters meet their preconditions (R355) -/
  paramsOk : boardOk s.board = true
  /-- the write position is a slot (R31) -/
  headInRange : s.head < s.board.xmitCap
  /-- the read position is a slot (R31) -/
  tailInRange : s.tail < s.board.xmitCap
  /-- the queue's memory is in canonical form (R31) -/
  memCanonical : s.mem.wf s.board.xmitCap = true
  /-- every queued byte was written: the queue is never read past its write position (R31, R78) -/
  queueWritten : ∀ i, i < qCount s → (s.mem.read (slotOf s i)).isSome = true
  /-- the active format is supported (R26) -/
  activeFormatOk : FormatOk s.board s.fmt
  /-- the staged format is supported (R181) -/
  stagedFormatOk : FormatOk s.board s.stg
  /-- the hold interval is that of the active format (R28, R52) -/
  holdFresh : s.hold = holdNs s.fmt
  /-- the one-shot is armed to the deadline (R53) -/
  oneShotAtDeadline : ∀ t, s.os = some t → t = s.dl
  /-- a pending disable is past the deadline (R208) -/
  disableDue : s.pend.dis = true → s.dl ≤ s.now
  /-- the line is never left enabled with nothing to release it (R53) -/
  enableReleased : s.de = .on → qEmpty s = true → s.line = .active →
    s.phase ≠ .parked ∨ s.os ≠ none ∨ s.pend.dis = true ∨ s.wake = true
  /-- the worker has exited exactly when the line is shut down (R53, R288) -/
  exitedIffShutdown : s.phase = .exited ↔ s.line = .shutdown
  /-- in `Starting` the commit is pending, no disable is on its way, and the worker is in no pass of servicing (R236, R354) -/
  startingCommits : s.line = .starting →
    s.pend.cfg = true ∧ s.os = none ∧ s.pend.dis = false ∧ (s.phase = .parked ∨ s.phase = .top ∨ s.phase = .endPass)
  /-- a suspend is pending exactly in `Suspending` (R236) -/
  suspendIffSuspending : s.pend.susp = true ↔ s.line = .suspending
  /-- the activation sources are armed exactly in the states R292 says so of -/
  armedIff : s.armed = true ↔ s.line = .starting ∨ s.line = .active ∨ s.line = .suspending
  /-- a requested stop is seen: the worker is at `Top`, or will be woken (R248) -/
  stopSeen : s.pend.stop = true → s.wake = true ∨ s.phase = .top
  /-- the receive buffer's bound (R47) -/
  rxBufBound : RxBufOk s
  /-- a shut-down line has nothing pending and an empty queue (R237, R352) -/
  shutdownQuiet : s.line = .shutdown → s.pend = PendingFlags.none ∧ s.wake = false ∧ s.os = none ∧ s.head = s.tail
  /-- a suspended line has no disable on its way, and the worker is in no pass of servicing (R238, R239) -/
  suspendedQuiet : s.line = .suspended →
    s.os = none ∧ s.pend.dis = false ∧ (s.phase = .parked ∨ s.phase = .top ∨ s.phase = .endPass)
  /-- only a shut-down Port is detached (R288) -/
  detachedShutdown : s.attached = false → s.line = .shutdown

/-- The transitions of the line state, each with the agent that takes it (R290). -/
def LineTransition (m : Move) (a b : LineState) : Prop :=
  (a = .shutdown ∧ b = .starting ∧ m = .host .openPort) ∨
  (a = .starting ∧ b = .active ∧ m = .worker) ∨
  ((a = .starting ∨ a = .active) ∧ b = .suspending ∧ m = .host .suspend) ∨
  (a = .suspending ∧ b = .suspended ∧ m = .worker) ∨
  ((a = .suspending ∨ a = .suspended) ∧ b = .active ∧ m = .host .resume) ∨
  (a ≠ .shutdown ∧ b = .shutdown ∧ m = .worker)

/-- Nothing stands before the commit: it is pending, no disable is on its way, and the worker is about to reach `Top`, where only a
stop or a suspend has priority over it (R234, R354). -/
def CommitFirst (s : State) : Prop :=
  (s.line = .starting ∨ s.line = .active ∨ s.line = .suspending) ∧ s.pend.cfg = true ∧ s.pend.dis = false ∧ s.os = none ∧
  (s.phase = .parked ∨ s.phase = .top)

/-- What the acceptance matrix says of a request (R291). -/
inductive Verdict where
  | accepted
  | refused
  | nop
deriving DecidableEq, Repr

/-- The acceptance matrix, row by row; its last column applies in any state once a stop is requested (R291). It has no row for
attach: that attach on an existing Port is refused is the model's choice (log entry 8; R271: accepted when no Port exists). -/
def verdict (r : Request) (line : LineState) (stop : Bool) : Verdict :=
  match r with
  | .attach _ _ => .refused
  | .push _ | .flush | .stopTx | .startTx | .close =>
    if stop then .refused else if line = .shutdown then .refused else .accepted
  | .openPort | .detach => if stop then .refused else if line = .shutdown then .accepted else .refused
  | .setFormat _ _ _ _ => if stop then .refused else if line = .active then .accepted else .refused
  | .queryModem | .queryTxe => .accepted
  | .suspend => if stop then .nop else if line = .starting ∨ line = .active then .accepted else .nop
  | .resume => if stop then .nop else if line = .suspending ∨ line = .suspended then .accepted else .nop
  | .setMctrl _ => .nop

/-- A request's name in the log, where it can be refused (R273). -/
def requestName : Request → Option RequestName
  | .attach _ _ => some .attach
  | .push _ => some .push
  | .openPort => some .openPort
  | .setFormat _ _ _ _ => some .setFormat
  | .flush => some .flush
  | .stopTx => some .stopTx
  | .startTx => some .startTx
  | .close => some .close
  | .detach => some .detach
  | _ => none

/-- What a refused request returns: push the number 0, every other one `NotAccepted` (R273). -/
def refusalReply : Request → Reply
  | .push _ => .queued 0
  | _ => .notAccepted

/-- The flag a failed transaction sets again (R242). The suspend step never cleared its flag (R238), so a power-down sets
nothing. -/
def setAgain (i : Instr) (p : PendingFlags) : PendingFlags :=
  match i with
  | .cfg _ _ _ _ => { p with cfg := true }
  | .pwrdn _ _ _ _ => p
  | .rd => { p with txn := true }
  | .txd _ _ => { p with txn := true }
  | .deoff => { p with dis := true }
  | .rc => p

/-- A power-down word. -/
def isPowerDown : Instr → Bool
  | .pwrdn _ _ _ _ => true
  | .cfg _ _ _ _ | .rd | .txd _ _ | .deoff | .rc => false

/-- The sink's answer to its (i+1)-th next call: the script's, or past its end a free value (R151, I10; log entry 1). -/
def sinkAnswer (e : Env) (i : Nat) : Nat :=
  match e.accepts[i]? with
  | some n => n
  | none => Config.freeAccept (e.draws + (i - e.accepts.length))

/-- The receive counters after one more character with a given flag (R143). -/
def Counters.received (c : Counters) : RxFlag → Counters
  | .normal => { c with nrx := c.nrx + 1 }
  | .parityError => { c with nperr := c.nperr + 1 }
  | .framingError => { c with nferr := c.nferr + 1 }

/-- The events a received character raises (R143). -/
def rxEvents (c : RxChar) : List Event :=
  match c.flag with
  | .normal => []
  | .parityError => [.rxParityError c.ch]
  | .framingError => [.rxFramingError c.ch]

/-- A data-class transaction, tag 10 or 00 (R13, R142). -/
def dataClass : Instr → Bool
  | .rd | .txd _ _ | .deoff => true
  | .cfg _ _ _ _ | .pwrdn _ _ _ _ | .rc => false

/-- The bytes queued, the next to be sent first, where all of them were written (R31). -/
def queued (s : State) : List Byte :=
  (List.range (qCount s)).filterMap fun i => s.mem.read (slotOf s i)

end Sys2Proof.Machine
end

