-- ==== Sys2Proof/Certificates/Slice0/Obligations.lean ====
section
/-!
DEFINITION. The statements. Each is a `def Obligations.<Name> : Prop`; OBLIGATIONS.json lists them with the rules of spec/ they
rest on. Where a clause rests on a choice of the model, the docstring names the log
entry (notes/assumptions/<n>.md).
-/

open Sys2Proof Sys2Proof.Machine

/-! ### Bus words (spec/30_encoding.md) -/

/-- R101 to R107, R115: decoding the bytes of any instruction gives it back and leaves the rest. -/
def Obligations.DecodeEncodeRoundTrip : Prop :=
  ∀ (i : Instr) (rest : List Byte), decode (encodeBytes i ++ rest) = .ok (i, rest)

/-- R101 to R107: a word that decodes is the word of what it decodes to, so no two words share a meaning. -/
def Obligations.DecodedWordEncodesBack : Prop :=
  ∀ (w : Word) (i : Instr), decodeWord w = .ok i → encode i = w

/-- R109, R113: the word assembled by R109's formula is the one the fields of R102 to R107 spell, and it decodes to its own kind's
instruction. -/
def Obligations.AssembledWordsDecode : Prop :=
  ∀ k : Txn, encode (instrOf k) = enc k ∧ decodeWord (enc k) = .ok (instrOf k)

/-- R109: two transactions have the same word exactly when they are of one kind and agree in what that kind's word carries: code,
word length, stop bits and whether there is parity for a configuration write, data and parity bit for a character. -/
def Obligations.KindsNeverShareAWord : Prop :=
  ∀ k k' : Txn, enc k = enc k' ↔
    match k, k' with
    | .cfg f, .cfg g => f.code = g.code ∧ f.wlen = g.wlen ∧ f.stop = g.stop ∧ (f.par = .none ↔ g.par = .none)
    | .pwrdn f, .pwrdn g => f.code = g.code ∧ f.wlen = g.wlen ∧ f.stop = g.stop ∧ (f.par = .none ↔ g.par = .none)
    | .rd, .rd => True
    | .txd f c, .txd g d => applyParity f c = applyParity g d
    | .deoff, .deoff => True
    | _, _ => False

/-- R101 to R107, spec/95_test_vectors.md V-B3 and V-P2: a few words written out decode to what they stand for. -/
def Obligations.SampleWordsDecode : Prop :=
  decodeWord 0xC46F#16 = .ok (.cfg true true false 15#4) ∧ decodeWord 0xD411#16 = .ok (.pwrdn false false true 1#4) ∧
  decodeWord 0x0000#16 = .ok .rd ∧ decodeWord 0x8343#16 = .ok (.txd true 0x43#8) ∧
  decodeWord 0x8400#16 = .ok .deoff ∧ decodeWord 0x4000#16 = .ok .rc ∧ decodeWord 0x8600#16 = .error .reservedWriteData

/-! ### Codec and hold (spec/41_codec.md, spec/42_timing_controller.md §1) -/

/-- R185, R172, R173: what `apply_parity` sends, `check_parity` accepts, for every format and byte; with the parity bit flipped it
is refused under a parity mode, and still accepted without one. -/
def Obligations.ParityRoundTrips : Prop :=
  ∀ (f : Format) (c : Byte),
    let word := fun p : Bool => (BitVec.ofBool p).setWidth 16 <<< 8 ||| (applyParity f c).1.setWidth 16
    checkParity f (word (applyParity f c).2) = true ∧
    checkParity f (word (!(applyParity f c).2)) = decide (f.par = .none)

/-- R174, R171, R170: the parity bit makes the number of 1 bits among the data bits and itself even, or odd; the data bits are bits
0 to 6, and bit 7 with a word length of 8. -/
def Obligations.ParityBitMakesCountEvenOrOdd : Prop :=
  ∀ (c : Byte) (wl : WordLen) (odd : Bool),
    ((c.getLsbD 0).toNat + (c.getLsbD 1).toNat + (c.getLsbD 2).toNat + (c.getLsbD 3).toNat + (c.getLsbD 4).toNat +
      (c.getLsbD 5).toNat + (c.getLsbD 6).toNat + (if wl = .eight then (c.getLsbD 7).toNat else 0) +
      (parityBit c wl odd).toNat) % 2 = if odd then 1 else 0

/-- R178, R200, R201, R202: a character is one start bit, the data bits, a parity bit under a parity mode, and the stop bits; the
hold is that many floor-divided bit times. For every format that the table of R176 supports, the hold is positive (at least 39060 ns) and short of the
exact character time by less than one nanosecond a bit: `hold * baud + bits * (10^9 mod baud) = bits * 10^9`. -/
def Obligations.HoldIsPositiveAndAlmostExact : Prop :=
  (∀ f : Format,
    bitsPerChar f = 1 + (match f.wlen with | .seven => 7 | .eight => 8) +
      (match f.par with | .none => 0 | .even => 1 | .odd => 1) + (match f.stop with | .one => 1 | .two => 2) ∧
    holdNs f = 1000000000 / f.baud * bitsPerChar f) ∧
  (∀ (p : Config.Board) (f : Format), p.baudTable = Config.baudTable → FormatOk p f →
    4340 ≤ bitTime f.baud ∧ 9 ≤ bitsPerChar f ∧ bitsPerChar f ≤ 12 ∧ 39060 ≤ holdNs f ∧
    holdNs f * f.baud + bitsPerChar f * (1000000000 % f.baud) = bitsPerChar f * 1000000000 ∧
    1000000000 % f.baud < f.baud)

/-- R175, R176: the lookup gives a listed rate's code under each oscillator, for any table without two rows for one rate. The
table of R176 whole: each listed rate's code, nothing for any other rate, and the fast code one above the slow one wherever both
exist. -/
def Obligations.BaudTableValues : Prop :=
  (∀ b, baudToChipCode Config.baudTable b .slow =
    if b = 300 then some 15#4 else if b = 600 then some 14#4 else if b = 1200 then some 13#4
    else if b = 2400 then some 12#4 else if b = 4800 then some 11#4 else if b = 9600 then some 10#4
    else if b = 19200 then some 9#4 else if b = 38400 then some 8#4 else if b = 57600 then some 1#4
    else if b = 115200 then some 0#4 else none) ∧
  (∀ b, baudToChipCode Config.baudTable b .fast =
    if b = 600 then some 15#4 else if b = 1200 then some 14#4 else if b = 2400 then some 13#4
    else if b = 4800 then some 12#4 else if b = 9600 then some 11#4 else if b = 19200 then some 10#4
    else if b = 38400 then some 9#4 else if b = 57600 then some 2#4 else if b = 115200 then some 1#4
    else if b = 230400 then some 0#4 else none) ∧
  (∀ b c d, baudToChipCode Config.baudTable b .slow = some c → baudToChipCode Config.baudTable b .fast = some d → d = c + 1#4) ∧
  (∀ (table : Config.BaudTable) (row : Config.BaudRow) (x : Config.Crystal), row ∈ table →
    table.Pairwise (fun a b => a.rate ≠ b.rate) →
    baudToChipCode table row.rate x = (match x with | .slow => row.slow | .fast => row.fast))

/-- R179, R180, R183, R181: the four fields of a format request resolve independently, each to the request's value where it is
supported and to the staged one where it is not; each fallback is reported once, in order; a supported staged format stays one. -/
def Obligations.ResolveFallsBackFieldByField : Prop :=
  ∀ (board : Config.Board) (b w : Nat) (p : ReqParity) (st : Nat) (g : Format),
    let r := resolve board b w p st g
    let code := baudToChipCode board.baudTable b board.crystal
    (∀ c, code = some c → r.1.baud = b ∧ r.1.code = c) ∧
    (code = none → r.1.baud = g.baud ∧ r.1.code = g.code) ∧
    r.1.wlen = (if w = 7 then .seven else if w = 8 then .eight else g.wlen) ∧
    (∀ m, p = .mode m → r.1.par = m) ∧ (p = .other → r.1.par = g.par) ∧
    r.1.stop = (if st = 1 then .one else if st = 2 then .two else g.stop) ∧
    r.2 = (if code = none then [Fallback.baud b] else []) ++
      (if w = 7 ∨ w = 8 then [] else [Fallback.wlen w]) ++
      (if p = .other then [Fallback.par] else []) ++
      (if st = 1 ∨ st = 2 then [] else [Fallback.stop st]) ∧
    (FormatOk board g → FormatOk board r.1)

/-- R184: two requests in a row for the same unsupported rate, whatever else they ask, both give the rate and code staged before
the first. -/
def Obligations.UnsupportedRateTwiceSameFallback : Prop :=
  ∀ (board : Config.Board) (b w w' : Nat) (p p' : ReqParity) (st st' : Nat) (g : Format),
    baudToChipCode board.baudTable b board.crystal = none →
    let f1 := (resolve board b w p st g).1
    let f2 := (resolve board b w' p' st' f1).1
    f1.baud = g.baud ∧ f1.code = g.code ∧ f2.baud = g.baud ∧ f2.code = g.code

/-- R144, R170, R173, R174: the character is cut to the word length; a framing error counts only when reported, and before a parity
error; parity is checked only under a parity mode, where the number of 1 bits among the data bits and bit 8 must be even, or odd. -/
def Obligations.ClassifyFlagsACharacter : Prop :=
  ∀ (fe : Bool) (f : Format) (r : Word),
    (classify fe f r).ch = r.extractLsb' 0 8 &&& (match f.wlen with | .seven => 0x7F#8 | .eight => 0xFF#8) ∧
    (fe = true → r.getLsbD 10 = true → (classify fe f r).flag = .framingError) ∧
    (fe = false ∨ r.getLsbD 10 = false →
      (classify fe f r).flag =
        if f.par = .none ∨
          ((r.getLsbD 0).toNat + (r.getLsbD 1).toNat + (r.getLsbD 2).toNat + (r.getLsbD 3).toNat + (r.getLsbD 4).toNat +
            (r.getLsbD 5).toNat + (r.getLsbD 6).toNat + (if f.wlen = .eight then (r.getLsbD 7).toNat else 0) +
            (r.getLsbD 8).toNat) % 2 = (if f.par = .odd then 1 else 0)
        then .normal else .parityError)

/-! ### The transactions (spec/40_transaction_engine.md): result, completion and frame

Each next state is written as the old one with the changed fields, so every other field is unchanged. -/

/-- R146, R141, R337: CFG commits the staged format; on a failure the commit is pending again and nothing else of the Port but the
failure bookkeeping moves (R140). That the staged format is committed whatever fields the word carries, and in any phase, is the
model's choice (log entry 6): the worker issues only the word of the staged format. Log entry 7 for the chip after a failure. -/
def Obligations.CfgCommitsStagedFormat : Prop :=
  ∀ (st pe l : Bool) (b : BitVec 4) (s : State),
    (∀ r, nextAnswer s.env = .ok r →
      exec (.cfg st pe l b) s = .next
        { s with fmt := s.stg, hold := bitTime s.stg.baud * bitsPerChar s.stg
                 txe := r.getLsbD 14, rxa := r.getLsbD 15
                 pend := { s.pend with cfg := false, rxp := s.pend.rxp || r.getLsbD 15 }
                 line := if s.line = .starting then .active else s.line
                 phase := .top
                 chip := .known ((encode (.cfg st pe l b)).extractLsb' 0 14)
                 env := afterAnswer (encode (.cfg st pe l b)) s.env }) ∧
    (nextAnswer s.env = .err →
      exec (.cfg st pe l b) s = .next
        { s with pend := { s.pend with cfg := true }, fail := true, phase := .endPass
                 ctr := { s.ctr with nxerr := s.ctr.nxerr + 1 }
                 log := s.log ++ [{ event := .transportError (encode (.cfg st pe l b)) s.phase, time := s.now }]
                 chip := .unknown, env := afterAnswer (encode (.cfg st pe l b)) s.env })

/-- R237, R149: PWRDN in the stop sequence ends in `Shutdown` and `Exited` whether it succeeds or fails; a failure is logged with
phase `Top` and not retried. Any fields of the word and any phase: log entry 6. The chip after a failure: log entry 7. -/
def Obligations.PowerDownAtStopShutsDown : Prop :=
  ∀ (st pe l : Bool) (b : BitVec 4) (s : State), s.pend.stop = true →
    (∀ r, nextAnswer s.env = .ok r →
      exec (.pwrdn st pe l b) s = .next
        { s with txe := r.getLsbD 14, rxa := r.getLsbD 15
                 os := none, armed := false, pend := PendingFlags.none, wake := false, tail := s.head
                 de := .unknown, line := .shutdown, phase := .exited
                 chip := .known ((encode (.pwrdn st pe l b)).extractLsb' 0 14)
                 env := afterAnswer (encode (.pwrdn st pe l b)) s.env }) ∧
    (nextAnswer s.env = .err →
      exec (.pwrdn st pe l b) s = .next
        { s with log := s.log ++ [{ event := .transportError (encode (.pwrdn st pe l b)) .top, time := s.now }]
                 ctr := { s.ctr with nxerr := s.ctr.nxerr + 1 }
                 os := none, armed := false, pend := PendingFlags.none, wake := false, tail := s.head
                 de := .unknown, line := .shutdown, phase := .exited
                 chip := .unknown, env := afterAnswer (encode (.pwrdn st pe l b)) s.env })

/-- R238, R149: PWRDN in the suspend step enters `Suspended`, keeping the queue, the deadline and the other flags; a failure leaves
the suspend pending. Any fields of the word and any phase: log entry 6. The chip after a failure: log entry 7. -/
def Obligations.PowerDownAtSuspendHalts : Prop :=
  ∀ (st pe l : Bool) (b : BitVec 4) (s : State), s.pend.stop = false → s.pend.susp = true →
    (∀ r, nextAnswer s.env = .ok r →
      exec (.pwrdn st pe l b) s = .next
        { s with txe := r.getLsbD 14, rxa := r.getLsbD 15
                 pend := { s.pend with susp := false, dis := false }
                 os := none, de := .unknown, armed := false, line := .suspended, phase := .endPass
                 chip := .known ((encode (.pwrdn st pe l b)).extractLsb' 0 14)
                 env := afterAnswer (encode (.pwrdn st pe l b)) s.env }) ∧
    (nextAnswer s.env = .err →
      exec (.pwrdn st pe l b) s = .next
        { s with fail := true, phase := .endPass, ctr := { s.ctr with nxerr := s.ctr.nxerr + 1 }
                 log := s.log ++ [{ event := .transportError (encode (.pwrdn st pe l b)) s.phase, time := s.now }]
                 chip := .unknown, env := afterAnswer (encode (.pwrdn st pe l b)) s.env })

/-- The model's choice (log entry 6): PWRDN with no stop and no suspend pending, which no worker step issues, is R149's common part
and leaves the driver enable unknown. -/
def Obligations.PowerDownUnrequested : Prop :=
  ∀ (st pe l : Bool) (b : BitVec 4) (s : State), s.pend.stop = false → s.pend.susp = false →
    (∀ r, nextAnswer s.env = .ok r →
      exec (.pwrdn st pe l b) s = .next
        { s with txe := r.getLsbD 14, rxa := r.getLsbD 15, de := .unknown
                 chip := .known ((encode (.pwrdn st pe l b)).extractLsb' 0 14)
                 env := afterAnswer (encode (.pwrdn st pe l b)) s.env }) ∧
    (nextAnswer s.env = .err →
      exec (.pwrdn st pe l b) s = .next
        { s with fail := true, phase := .endPass, ctr := { s.ctr with nxerr := s.ctr.nxerr + 1 }
                 log := s.log ++ [{ event := .transportError (encode (.pwrdn st pe l b)) s.phase, time := s.now }]
                 chip := .unknown, env := afterAnswer (encode (.pwrdn st pe l b)) s.env })

/-- R145, R241, R143, R150: RD in `Drain(k)`. No character ends the drain, delivered, at `Tx`; a character below the bound is
collected and the drain goes on; at the bound it is collected, another drain is asked for, and all is delivered. A failure asks for
another pass. Outside a drain (log entry 6) the response is only taken in. Log entry 7 for the chip after a failure. -/
def Obligations.ReadDataDrainsOneCharacter : Prop :=
  ∀ (s : State),
    (∀ r, nextAnswer s.env = .ok r →
      let u : State := { s with txe := r.getLsbD 14, rxa := r.getLsbD 15, cts := r.getLsbD 9
                                env := afterAnswer 0x0000#16 s.env }
      let c := classify s.board.feReport s.fmt r
      let v : State := { u with rxbuf := s.rxbuf ++ [c], ctr := s.ctr.received c.flag
                                log := s.log ++ (rxEvents c).map fun ev => { event := ev, time := s.now } }
      (∀ k, s.phase = .drain k →
        (r.getLsbD 15 = false → exec .rd s = .next { deliver u with phase := .tx }) ∧
        (r.getLsbD 15 = true → k + 1 < s.board.rxDrainMax → exec .rd s = .next { v with phase := .drain (k + 1) }) ∧
        (r.getLsbD 15 = true → s.board.rxDrainMax ≤ k + 1 →
          exec .rd s = .next { deliver { v with pend := { s.pend with rxp := true } } with phase := .tx })) ∧
      ((∀ k, s.phase ≠ .drain k) → exec .rd s = .next (if r.getLsbD 15 then v else u))) ∧
    (nextAnswer s.env = .err →
      exec .rd s = .next
        { s with pend := { s.pend with txn := true }, fail := true, phase := .endPass
                 ctr := { s.ctr with nxerr := s.ctr.nxerr + 1 }
                 log := s.log ++ [{ event := .transportError 0x0000#16 s.phase, time := s.now }]
                 chip := .unknown, env := afterAnswer 0x0000#16 s.env })

/-- R147, R204, R209, R143: TXD takes the byte off the queue, asserts the enable, cancels the deferred disable, extends the deadline
to `max(dl, now) + hold`, and delivers a character received in the same exchange at once. On a failure the byte stays queued and
the deadline stays. That it does so for any byte in the word, in any phase and whatever the queue holds, an empty one too, is the
model's choice (log entry 6): the worker issues only the byte at the read position. Log entry 7 for the chip after a failure. -/
def Obligations.TransmitSendsOneCharacter : Prop :=
  ∀ (pt : Bool) (d : Byte) (s : State),
    (∀ r, nextAnswer s.env = .ok r →
      let u : State :=
        { s with tail := (s.tail + 1) % s.board.xmitCap, ctr := { s.ctr with ntx := s.ctr.ntx + 1 }, de := .on
                 outcome := if s.os.isSome || s.pend.dis then some .superseded else s.outcome
                 os := none, pend := { s.pend with dis := false }
                 tc := s.now, dl := max s.dl s.now + s.hold
                 txe := r.getLsbD 14, rxa := r.getLsbD 15, cts := r.getLsbD 9
                 env := afterAnswer (encode (.txd pt d)) s.env }
      let c := classify s.board.feReport s.fmt r
      let v : State := { u with pend := { u.pend with rxp := true }, rxbuf := s.rxbuf ++ [c], ctr := u.ctr.received c.flag
                                log := s.log ++ (rxEvents c).map fun ev => { event := ev, time := s.now } }
      (r.getLsbD 15 = false → exec (.txd pt d) s = .next { u with phase := .tx }) ∧
      (r.getLsbD 15 = true → exec (.txd pt d) s = .next { deliver v with phase := .tx })) ∧
    (nextAnswer s.env = .err →
      exec (.txd pt d) s = .next
        { s with pend := { s.pend with txn := true }, fail := true, phase := .endPass
                 ctr := { s.ctr with nxerr := s.ctr.nxerr + 1 }
                 log := s.log ++ [{ event := .transportError (encode (.txd pt d)) s.phase, time := s.now }]
                 chip := .unknown, env := afterAnswer (encode (.txd pt d)) s.env })

/-- R148, R143: DEOFF drops the enable and records `Applied`; queue, deadline and completion time stay. On a failure the disable is
pending again. That it does so without R208's tests, with bytes queued or before the deadline too, is the model's choice (log entry
6): the worker issues it only past those tests (R211). Log entry 7 for the chip after a failure. -/
def Obligations.DisableDropsTheEnable : Prop :=
  ∀ (s : State),
    (∀ r, nextAnswer s.env = .ok r →
      let u : State :=
        { s with de := .off, outcome := some .applied
                 txe := r.getLsbD 14, rxa := r.getLsbD 15, cts := r.getLsbD 9
                 env := afterAnswer 0x8400#16 s.env }
      let c := classify s.board.feReport s.fmt r
      let v : State := { u with pend := { s.pend with rxp := true }, rxbuf := s.rxbuf ++ [c], ctr := s.ctr.received c.flag
                                log := s.log ++ (rxEvents c).map fun ev => { event := ev, time := s.now } }
      (r.getLsbD 15 = false → exec .deoff s = .next { u with phase := .top }) ∧
      (r.getLsbD 15 = true → exec .deoff s = .next { deliver v with phase := .top })) ∧
    (nextAnswer s.env = .err →
      exec .deoff s = .next
        { s with pend := { s.pend with dis := true }, fail := true, phase := .endPass
                 ctr := { s.ctr with nxerr := s.ctr.nxerr + 1 }
                 log := s.log ++ [{ event := .transportError 0x8400#16 s.phase, time := s.now }]
                 chip := .unknown, env := afterAnswer 0x8400#16 s.env })

/-- R152, R108: RC is refused in every state (I15: "refuse: the sequencer has no step that issues them"), and no step of any agent
puts a word with tag 01 on the bus. -/
def Obligations.ReadConfigurationNeverRuns : Prop :=
  (∀ s : State, exec .rc s = .refused .neverIssued) ∧
  (∀ (s t : State), step s = .next t → ∀ x ∈ t.env.bus, x ∈ s.env.bus ∨ tagOf x.out ≠ 0b01#2)

/-- R151, R6: a delivery calls the sink at most `SINK_ATTEMPTS` times, stopping when nothing is left; the sink gets, in order, as many
leading characters as it took, and the others are dropped, counted and logged once. `took j` is what the first `j` calls would take:
their answers are the script's or, past its end, free values (log entry 1). Only the calls made use an answer up. -/
def Obligations.DeliveryOffersAtMostSinkAttempts : Prop :=
  ∀ s : State,
    let took := fun j : Nat => ((List.range j).map (sinkAnswer s.env)).sum
    let n := s.rxbuf.length
    let k := min n (took s.board.sinkAttempts)
    let calls := (List.range s.board.sinkAttempts).countP fun j => decide (took j < n)
    deliver s =
      { s with rxbuf := []
               ctr := { s.ctr with ndrop := s.ctr.ndrop + (n - k) }
               log := s.log ++ (if k < n then [{ event := .rxDropped (n - k), time := s.now }] else [])
               env := { s.env with
                        sink := s.env.sink ++ s.rxbuf.take k
                        accepts := s.env.accepts.drop calls
                        draws := s.env.draws + (calls - s.env.accepts.length) } }

/-- R140, R75: each transaction but RC completes, in every state (log entry 6), by exactly one exchange of its own word; its answer
is the environment's next one, and the agenda is not touched. -/
def Obligations.EveryTransactionIsOneExchange : Prop :=
  ∀ (i : Instr) (s : State), i ≠ .rc →
    ∃ t, exec i s = .next t ∧ t.env.bus = s.env.bus ++ [{ out := encode i, answer := nextAnswer s.env }] ∧
      t.env.agenda = s.env.agenda

/-- R141, R142, R112: every successful exchange, of every kind, refreshes the two status bits from bits 14 and 15 of its response
(R141), and one of a data class, and no other, the cached clear-to-send from bit 9 (R142). In every state: log entry 6. -/
def Obligations.StatusDecodedFromEveryAnswer : Prop :=
  ∀ (i : Instr) (s : State) (r : Word), i ≠ .rc → nextAnswer s.env = .ok r →
    ∃ t, exec i s = .next t ∧ t.txe = r.getLsbD 14 ∧ t.rxa = r.getLsbD 15 ∧
      t.cts = if dataClass i then r.getLsbD 9 else s.cts

/-- R77, R140, R242: outside the stop sequence a failed exchange leaves every field but the failure bookkeeping as it was: the
log, the failure count, the failed-pass mark, the flag set again, the phase, and what is known of the chip (log entry 7). In every
state: log entry 6. -/
def Obligations.FailedExchangeChangesOnlyBookkeeping : Prop :=
  ∀ (i : Instr) (s : State), i ≠ .rc → nextAnswer s.env = .err → (isPowerDown i = true → s.pend.stop = false) →
    exec i s = .next
      { s with log := s.log ++ [{ event := .transportError (encode i) s.phase, time := s.now }]
               ctr := { s.ctr with nxerr := s.ctr.nxerr + 1 }
               fail := true, pend := setAgain i s.pend, phase := .endPass
               chip := .unknown, env := afterAnswer (encode i) s.env }

/-! ### The worker (spec/43_scheduler.md) -/

/-- R230, R109: when the worker moves and its phase issues a transaction, the word assembled for it decodes, and the step is exactly
that instruction's execution, from the state with the agenda advanced (and, for the disable, its flag taken: R208). -/
def Obligations.StepRunsTheDecodedInstruction : Prop :=
  ∀ (s u : State) (k : Txn), s.attached = true → nextMove s.env = .worker → workerPlan s.chosen = .issue k u →
    ∃ i, decodeWord (enc k) = .ok i ∧ step s = exec i u ∧
      (u = { s with env := afterMove s.env } ∨
       k = .deoff ∧ u = { s with env := afterMove s.env, pend := { s.pend with dis := false } })

/-- The model's `withFetchWord` (log entry 5): from any state whose queue has two slots or more (R355), placing the word of any instruction but RC makes the very next step
execute that instruction, at the same clock, hold and timer and with the environment's scripts as they were. -/
def Obligations.PlacedWordRunsNext : Prop :=
  ∀ (i : Instr) (s : State), i ≠ .rc → 2 ≤ s.board.xmitCap →
    ∃ u, step (s.withFetchWord 16 (encode i).toNat) = exec i u ∧
      u.env = s.env ∧ u.now = s.now ∧ u.hold = s.hold ∧ u.os = s.os ∧ u.board = s.board

/-- R232: a parked worker with a wake goes to `Top` with the wake and the failed-pass mark cleared. Without one R232 gives it no
step; that the model answers a step which changes nothing is its choice (log entry 1). -/
def Obligations.ParkedWorkerNeedsAWake : Prop :=
  ∀ s : State, s.attached = true → nextMove s.env = .worker → s.phase = .parked →
    step s = .next
      (if s.wake then { s with env := afterMove s.env, wake := false, fail := false, phase := .top }
       else { s with env := afterMove s.env })

/-- R233: while the worker has exited no step puts a word on the bus, and only the host's open starts it again. -/
def Obligations.ExitedWorkerIsSilent : Prop :=
  ∀ s t : State, s.phase = .exited → step s = .next t →
    t.env.bus = s.env.bus ∧ (t.phase = .exited ∨ t.phase = .parked ∧ nextMove s.env = .host .openPort)

/-- R234, R236, R239: at `Top` the first item that applies is taken: stop, suspend, halted, disable, commit, servicing; the words
are those of the items. -/
def Obligations.TopTakesTheFirstItem : Prop :=
  ∀ s : State, s.attached = true → nextMove s.env = .worker → s.phase = .top →
    let c : State := { s with env := afterMove s.env }
    (s.pend.stop = true → ∃ t, step s = .next t ∧ t.phase = .exited ∧
      t.env.bus = s.env.bus ++ [{ out := enc (.pwrdn s.fmt), answer := nextAnswer c.env }]) ∧
    (s.pend.stop = false → s.pend.susp = true → ∃ t, step s = .next t ∧ t.phase = .endPass ∧
      t.env.bus = s.env.bus ++ [{ out := enc (.pwrdn s.fmt), answer := nextAnswer c.env }]) ∧
    (s.pend.stop = false → s.pend.susp = false →
      (s.line = .suspended → step s = .next { c with phase := .endPass }) ∧
      (s.line ≠ .suspended → s.pend.dis = true → ∃ t, step s = .next t ∧
        (t.env.bus = s.env.bus ∧ t.pend.dis = false ∧ t.phase = .top ∨
         t.env.bus = s.env.bus ++ [{ out := 0x8400#16, answer := nextAnswer c.env }])) ∧
      (s.line ≠ .suspended → s.pend.dis = false → s.pend.cfg = true → ∃ t, step s = .next t ∧
        t.env.bus = s.env.bus ++ [{ out := enc (.cfg s.stg), answer := nextAnswer c.env }]) ∧
      (s.line = .active → s.pend.dis = false → s.pend.cfg = false → ∃ t, step s = .next t ∧
        t.env.bus = s.env.bus ∧ t.phase = .drain 0) ∧
      (s.line ≠ .suspended → s.line ≠ .active → s.pend.dis = false → s.pend.cfg = false →
        step s = .next { c with phase := .endPass }))

/-- R208: the disable evaluation. A started transmit or a byte queued supersedes it and disarms the one-shot; an enable already off
supersedes it; before the deadline the one-shot is armed again; otherwise DEOFF runs. -/
def Obligations.DisableEvaluationBranches : Prop :=
  ∀ s : State, s.attached = true → nextMove s.env = .worker → s.phase = .top →
    s.pend.stop = false → s.pend.susp = false → s.line ≠ .suspended → s.pend.dis = true →
    let c : State := { s with env := afterMove s.env, pend := { s.pend with dis := false } }
    (s.pend.txs = true ∨ s.head ≠ s.tail →
      step s = .next { c with os := none, outcome := some .superseded, phase := .top }) ∧
    (s.pend.txs = false → s.head = s.tail → s.de = .off →
      step s = .next { c with outcome := some .superseded, phase := .top }) ∧
    (s.pend.txs = false → s.head = s.tail → s.de ≠ .off → s.now < s.dl →
      step s = .next { c with os := some s.dl, phase := .top }) ∧
    (s.pend.txs = false → s.head = s.tail → s.de ≠ .off → s.dl ≤ s.now → step s = exec .deoff c)

/-- R240: servicing takes its flags, discards the queue if a flush is pending, and starts a drain; no exchange, nothing else. -/
def Obligations.ServicingTakesItsFlags : Prop :=
  ∀ s : State, s.attached = true → nextMove s.env = .worker → s.phase = .top → s.line = .active →
    s.pend.stop = false → s.pend.susp = false → s.pend.dis = false → s.pend.cfg = false →
    step s = .next
      { s with env := afterMove s.env, phase := .drain 0, tail := if s.pend.fls then s.head else s.tail
               pend := { s.pend with txs := false, txn := false, rxp := false, fls := false } }

/-- R241, R243: a drain or transmit step is preempted by a stop or suspend request; a transmit step with nothing to send, stopped,
or with the chip busy ends the pass; otherwise the drain reads, and the transmit step sends the byte at the read position under the
active format. A byte never written is a fault (log entry 4). -/
def Obligations.DrainAndTransmitSteps : Prop :=
  ∀ s : State, s.attached = true → nextMove s.env = .worker →
    let c : State := { s with env := afterMove s.env }
    (∀ k, s.phase = .drain k →
      (s.pend.stop = true ∨ s.pend.susp = true → step s = .next { deliver c with phase := .top }) ∧
      (s.pend.stop = false → s.pend.susp = false → step s = exec .rd c)) ∧
    (s.phase = .tx →
      (s.pend.stop = true ∨ s.pend.susp = true → step s = .next { c with phase := .top }) ∧
      (s.pend.stop = false → s.pend.susp = false →
        (s.head = s.tail ∨ s.txstop = true ∨ s.txe = false → step s = .next { c with phase := .endPass }) ∧
        (s.head ≠ s.tail → s.txstop = false → s.txe = true →
          (∀ b, s.mem.read s.tail = some b → step s = exec (instrOf (.txd s.fmt b)) c) ∧
          (s.mem.read s.tail = none → step s = .fault .unwrittenSlot))))

/-- R244, R206: `End` delivers, arms the one-shot to the deadline exactly when the queue is empty, the enable is not known to be
off, none is armed, no disable is pending and the line is active, and then loops or parks. -/
def Obligations.EndArmsThenLoopsOrParks : Prop :=
  ∀ s : State, s.attached = true → nextMove s.env = .worker → s.phase = .endPass →
    let c : State := { s with env := afterMove s.env }
    step s = .next
      { deliver c with
        os := if s.head = s.tail ∧ s.de ≠ .off ∧ s.os = none ∧ s.pend.dis = false ∧ s.line = .active then some s.dl else s.os
        phase :=
          if s.fail = true ∨ s.line = .suspended then .parked
          else if s.pend.stop = true ∨ s.pend.susp = true ∨ s.pend.dis = true ∨ s.pend.cfg = true ∨ s.pend.txn = true ∨
              s.pend.txs = true ∨ s.pend.rxp = true ∨ s.pend.fls = true ∨ (s.head ≠ s.tail ∧ s.txstop = false) then .top
          else .parked }

/-! ### The activation sources and the clock (spec/60_exceptions.md §2) -/

/-- R315, R316: an interrupt edge and a poll tick set their flags and the wake when the sources are armed (and the poll is due, and
is then put off by one period). An edge while disarmed changes nothing (R315). Where the agent is absent or the poll is not enabled
the spec gives no step; that the model answers one which changes nothing is its choice (log entry 1). -/
def Obligations.InterruptAndPollSetFlags : Prop :=
  ∀ s : State, s.attached = true →
    let c : State := { s with env := afterMove s.env }
    (nextMove s.env = .irq →
      step s = .next
        (if s.board.activation.irqPresent = true ∧ s.armed = true
         then { c with pend := { s.pend with txn := true, rxp := true }, wake := true } else c)) ∧
    (nextMove s.env = .poll →
      (∀ p, s.board.activation.pollPeriod = some p →
        step s = .next
          (if s.armed = true ∧ s.npoll ≤ s.now
           then { c with pend := { s.pend with txn := true }, wake := true, npoll := s.now + p } else c)) ∧
      (s.board.activation.pollPeriod = none → step s = .next c))

/-- R207: the one-shot fires once its time has come. Before that, and while it is disarmed, R207 gives it no step; that the model
answers one which changes nothing is its choice (log entry 1). -/
def Obligations.OneShotFiresWhenDue : Prop :=
  ∀ s : State, s.attached = true → nextMove s.env = .fire →
    let c : State := { s with env := afterMove s.env }
    (∀ d, s.os = some d → d ≤ s.now →
      step s = .next { c with os := none, pend := { s.pend with dis := true }, wake := true }) ∧
    (∀ d, s.os = some d → s.now < d → step s = .next c) ∧
    (s.os = none → step s = .next c)

/-- R319, R45: the clock's step adds its amount to the clock and changes nothing else, and no other step of an existing Port moves
the clock. The amount 0, which R319 does not have, is log entry 1's. -/
def Obligations.OnlyTheClockAdvancesTime : Prop :=
  ∀ s t : State, s.attached = true → step s = .next t →
    (∀ d, nextMove s.env = .tick d → t = { s with env := afterMove s.env, now := s.now + d }) ∧
    ((∀ d, nextMove s.env ≠ .tick d) → t.now = s.now)

/-- R318: interrupt and poll steps between two worker steps merge: each repeated is itself once, and their order does not matter. -/
def Obligations.ActivationOverlapIsIdempotent : Prop :=
  ∀ s : State, irq (irq s) = irq s ∧ poll (poll s) = poll s ∧ irq (poll s) = poll (irq s)

/-! ### The host's requests (spec/44_line_state.md) -/

/-- R291, R273: the acceptance matrix, in every state a Port can be in: a refused request logs and counts the refusal and returns
what R273 says, and changes nothing else; a nop returns `Ok` and changes nothing; an accepted one refuses nothing. R291 has no row
for attach: that attach on an existing Port is refused like the others is the model's choice (log entry 8). -/
def Obligations.AcceptanceMatrix : Prop :=
  ∀ (s : State) (r : Request), Inv s → s.attached = true → nextMove s.env = .host r →
    let c : State := { s with env := afterMove s.env }
    (verdict r s.line s.pend.stop = .refused → ∃ q, requestName r = some q ∧
      step s = .next
        { c with log := s.log ++ [{ event := .requestNotAccepted q s.line, time := s.now }]
                 ctr := { s.ctr with nrej := s.ctr.nrej + 1 }
                 env := { c.env with replies := c.env.replies ++ [refusalReply r] } }) ∧
    (verdict r s.line s.pend.stop = .nop →
      step s = .next { c with env := { c.env with replies := c.env.replies ++ [.ok] } }) ∧
    (verdict r s.line s.pend.stop = .accepted → ∃ t a, step s = .next t ∧ t.ctr.nrej = s.ctr.nrej ∧
      t.env.replies = c.env.replies ++ [a] ∧ a ≠ .notAccepted)

/-- R272: push queues the leading bytes that fit, in the slots from the write position on, leaves every other slot alone, counts
and logs the rest, and sets transmit-started and the wake exactly when it queued something. -/
def Obligations.PushQueuesTheLeadingBytes : Prop :=
  ∀ (s : State) (l : List Byte), s.attached = true → nextMove s.env = .host (.push l) →
    s.line ≠ .shutdown → s.pend.stop = false →
    let c : State := { s with env := afterMove s.env }
    let n := min l.length (s.board.xmitCap - 1 - qCount s)
    ∃ m : Memory,
      (∀ i, i < n → m.read ((s.head + i) % s.board.xmitCap) = l[i]?) ∧
      (∀ x, (∀ i, i < n → (s.head + i) % s.board.xmitCap ≠ x) → m.read x = s.mem.read x) ∧
      step s = .next
        { c with mem := m, head := (s.head + n) % s.board.xmitCap
                 ctr := { s.ctr with nqfull := s.ctr.nqfull + (l.length - n) }
                 log := s.log ++ (if l.length - n = 0 then [] else [{ event := .queueFull (l.length - n), time := s.now }])
                 pend := { s.pend with txs := s.pend.txs || decide (0 < n) }
                 wake := s.wake || decide (0 < n)
                 env := { c.env with replies := c.env.replies ++ [.queued n] } }

/-- R274: open starts the line: the staged format is to be committed, the sources are armed, the poll timer restarted, the queue
unstopped, and the worker parked with a wake. -/
def Obligations.OpenStartsTheLine : Prop :=
  ∀ s : State, s.attached = true → nextMove s.env = .host .openPort → s.line = .shutdown →
    let c : State := { s with env := afterMove s.env }
    step s = .next
      { c with line := .starting, txstop := false, armed := true, phase := .parked, wake := true
               pend := { s.pend with cfg := true }
               npoll := (match s.board.activation.pollPeriod with | some p => s.now + p | none => s.npoll)
               env := { c.env with replies := c.env.replies ++ [.ok] } }

/-- R276, R179: an accepted format request stages the resolved format, logs and counts each fallback, asks for a commit and wakes
the worker; the active format and the hold stay. -/
def Obligations.SetFormatStagesTheRequest : Prop :=
  ∀ (s : State) (b w : Nat) (p : ReqParity) (st : Nat), s.attached = true →
    nextMove s.env = .host (.setFormat b w p st) → s.line = .active → s.pend.stop = false →
    let c : State := { s with env := afterMove s.env }
    let r := resolve s.board b w p st s.stg
    step s = .next
      { c with stg := r.1, pend := { s.pend with cfg := true }, wake := true
               ctr := { s.ctr with nfallback := s.ctr.nfallback + r.2.length }
               log := s.log ++ r.2.map fun f => { event := .formatFallback f, time := s.now }
               env := { c.env with replies := c.env.replies ++ [.ok] } }

/-- R278, R279, R280, R286: flush, flow stop, flow start and close on a line that is not shut down and not being stopped set exactly
their flags, each returning `Ok`; only the flow stop leaves the wake alone. -/
def Obligations.FlushFlowControlAndClose : Prop :=
  ∀ s : State, s.attached = true → s.line ≠ .shutdown → s.pend.stop = false →
    let c : State := { s with env := { afterMove s.env with replies := (afterMove s.env).replies ++ [.ok] } }
    (nextMove s.env = .host .flush →
      step s = .next { c with pend := { s.pend with fls := true, txn := true }, wake := true }) ∧
    (nextMove s.env = .host .stopTx → step s = .next { c with txstop := true }) ∧
    (nextMove s.env = .host .startTx →
      step s = .next { c with txstop := false, pend := { s.pend with txs := true }, wake := true }) ∧
    (nextMove s.env = .host .close → step s = .next { c with pend := { s.pend with stop := true }, wake := true })

/-- R281, R289: the queries return the cached clear-to-send with DSR and DCD asserted, and whether the queue is empty and the chip's
transmit register was; they and set_mctrl change nothing. -/
def Obligations.QueriesChangeNothing : Prop :=
  ∀ s : State, s.attached = true →
    let c := fun a : Reply => { s with env := { afterMove s.env with replies := (afterMove s.env).replies ++ [a] } }
    (nextMove s.env = .host .queryModem → step s = .next (c (.modem s.cts true true))) ∧
    (nextMove s.env = .host .queryTxe → step s = .next (c (.txEmpty (decide (s.head = s.tail) && s.txe)))) ∧
    (∀ m, nextMove s.env = .host (.setMctrl m) → step s = .next (c .ok))

/-- R282, R284: suspend acts in `Starting` and `Active`, resume in `Suspended` (arming the sources again) and in `Suspending`
(cancelling the suspend); both ask for their work and wake the worker. -/
def Obligations.SuspendAndResumeRequests : Prop :=
  ∀ s : State, s.attached = true → s.pend.stop = false →
    let c : State := { s with env := { afterMove s.env with replies := (afterMove s.env).replies ++ [.ok] } }
    (nextMove s.env = .host .suspend → s.line = .starting ∨ s.line = .active →
      step s = .next { c with line := .suspending, pend := { s.pend with susp := true }, wake := true }) ∧
    (nextMove s.env = .host .resume → s.line = .suspended →
      step s = .next
        { c with line := .active, armed := true, pend := { s.pend with cfg := true }, wake := true
                 npoll := (match s.board.activation.pollPeriod with | some p => s.now + p | none => s.npoll) }) ∧
    (nextMove s.env = .host .resume → s.line = .suspending →
      step s = .next { c with line := .active, pend := { s.pend with susp := false, cfg := true }, wake := true })

/-- R288, R271, R350: detach of a shut-down Port ends it: every step but an attach then changes nothing but the environment's
choices; attach creates a Port in the reset state, or reports an unavailable source and creates none (log entry 8). -/
def Obligations.DetachAndAttach : Prop :=
  (∀ s : State, s.attached = true → nextMove s.env = .host .detach → s.line = .shutdown →
    step s = .next
      { s with attached := false, env := { afterMove s.env with replies := (afterMove s.env).replies ++ [.ok] } }) ∧
  (∀ s : State, s.attached = false → (∀ a t, nextMove s.env ≠ .host (.attach a t)) →
    step s = .next { s with env := afterMove s.env }) ∧
  (∀ (s : State) (t : Nat), s.attached = false → nextMove s.env = .host (.attach true t) →
    step s = .next
      (State.resetWith s.board t { afterMove s.env with replies := (afterMove s.env).replies ++ [.ok] })) ∧
  (∀ (s : State) (t : Nat), s.attached = false → nextMove s.env = .host (.attach false t) →
    step s = .next { s with env := { afterMove s.env with replies := (afterMove s.env).replies ++ [.attachFailed] } })

/-- R327, R153: no host request on an existing Port writes a field the worker or the clock owns, and none touches the bus. -/
def Obligations.HostNeverWritesWorkerFields : Prop :=
  ∀ (s t : State) (r : Request), s.attached = true → nextMove s.env = .host r → step s = .next t →
    t.env.bus = s.env.bus ∧ t.fmt = s.fmt ∧ t.hold = s.hold ∧ t.cts = s.cts ∧ t.txe = s.txe ∧ t.rxa = s.rxa ∧
    t.de = s.de ∧ t.tail = s.tail ∧ t.tc = s.tc ∧ t.dl = s.dl ∧ t.os = s.os ∧ t.outcome = s.outcome ∧
    t.fail = s.fail ∧ t.now = s.now ∧ t.rxbuf = s.rxbuf ∧ t.chip = s.chip ∧ t.pend.dis = s.pend.dis ∧
    t.pend.rxp = s.pend.rxp ∧ t.ctr.ntx = s.ctr.ntx ∧ t.ctr.nrx = s.ctr.nrx ∧ t.ctr.nperr = s.ctr.nperr ∧
    t.ctr.nferr = s.ctr.nferr ∧ t.ctr.nxerr = s.ctr.nxerr ∧ t.ctr.ndrop = s.ctr.ndrop ∧
    (t.phase = s.phase ∨ r = .openPort ∧ s.line = .shutdown ∧ t.phase = .parked)

/-! ### The machine as a whole -/

/-- R350, R337, R6: every field after reset, for any parameters, clock and environment: both formats are `DEFAULT_FORMAT` with the
table's code, the hold is its own, no slot of the queue has been written (log entry 4), and the chip's register is unknown (R337).
`State.reset` is that with the values R6 chooses: 9600 8N1, code 10 or 11, hold 1041660 ns; the OPEN parameters and the clock are
Config's opaque constants (log entry 2). That a Port exists at reset is log entry 2's choice, and the environment's empty scripts
and records, with no draw made, are log entry 1's. -/
def Obligations.ResetValues : Prop :=
  (∀ (p : Config.Board) (clock : Nat) (e : Env) (c : BitVec 4),
    baudToChipCode p.baudTable p.defaultFormat.baud p.crystal = some c →
    let f : Format := { baud := p.defaultFormat.baud, code := c, wlen := p.defaultFormat.wlen, par := p.defaultFormat.par
                        stop := p.defaultFormat.stop }
    State.resetWith p clock e =
      { board := p, attached := true, line := .shutdown, fmt := f, stg := f, hold := 1000000000 / f.baud * bitsPerChar f
        cts := false, txe := false, rxa := false, de := .off
        mem := [], head := 0, tail := 0, txstop := false, tc := 0, dl := 0, os := none, outcome := none
        pend := { cfg := false, dis := false, txn := false, txs := false, rxp := false, stop := false, susp := false
                  fls := false }
        wake := false, phase := .exited, armed := false, fail := false, now := clock, npoll := 0, rxbuf := []
        ctr := { ntx := 0, nrx := 0, nperr := 0, nferr := 0, nxerr := 0, ndrop := 0, nfallback := 0, nqfull := 0, nrej := 0 }
        log := [], chip := .unknown, env := e }) ∧
  State.reset =
    State.resetWith
      { crystal := Config.crystal, baudTable := Config.baudTable, xmitCap := 4096, rxDrainMax := 8, sinkAttempts := 3
        activation := Config.activation, defaultFormat := { baud := 9600, wlen := .eight, par := .none, stop := .one }
        feReport := false }
      Config.bootTime
      { agenda := [], answers := [], accepts := [], draws := 0, bus := [], sink := [], replies := [] } ∧
  State.reset.fmt.code = (match Config.crystal with | .slow => 10#4 | .fast => 11#4) ∧ State.reset.hold = 1041660

/-- R52, R53, R350, R355: the reset state, with any parameters that meet their preconditions, any clock and environment, is a state
a Port can be in; the values R6 chooses meet them, whatever the OPEN ones are. -/
def Obligations.ResetSatisfiesTheInvariant : Prop :=
  (∀ (b : Config.Board) (t : Nat) (e : Env), 2 ≤ b.xmitCap → 1 ≤ b.rxDrainMax → 1 ≤ b.sinkAttempts →
    baudToChipCode b.baudTable b.defaultFormat.baud b.crystal ≠ none → Inv (State.resetWith b t e)) ∧
  (∀ (x : Config.Crystal) (a : Config.Activation) (t : Nat) (e : Env), Inv (State.resetWith (Config.chosenBoard x a) t e)) ∧
  Inv State.reset

/-- R52, R53, R24, R31, R47, R181, R208, R236, R239, R248, R292: every step of every agent keeps the invariant. -/
def Obligations.EveryStepKeepsTheInvariant : Prop :=
  ∀ s t : State, Inv s → step s = .next t → Inv t

/-- R322, R31: from a state a Port can be in, no step faults or is refused: every word assembled is legal, and no queue slot is read
that was not written. -/
def Obligations.NoStepFaultsOrIsRefused : Prop :=
  ∀ s : State, Inv s → ∃ t, step s = .next t

/-- R108, R230: a step of any agent puts at most one word on the bus, and it is `enc(k)` of one of the five kinds. -/
def Obligations.OnlySequencerWordsReachTheBus : Prop :=
  ∀ s t : State, step s = .next t →
    t.env.bus = s.env.bus ∨
    ∃ (k : Txn) (a : Answer), nextMove s.env = .worker ∧ t.env.bus = s.env.bus ++ [{ out := enc k, answer := a }]

/-- R290: these are all the transitions of the line state, each taken by its own agent. -/
def Obligations.LineTransitionsAreTheListedOnes : Prop :=
  ∀ s t : State, Inv s → step s = .next t → t.line = s.line ∨ LineTransition (nextMove s.env) s.line t.line

/-- R211, R212: DEOFF goes on the bus only when the deadline has passed, the queue is empty, no transmit has started and a disable is
pending. -/
def Obligations.DisableWordWaitsForDeadlineAndQueue : Prop :=
  ∀ (s t : State) (a : Answer), step s = .next t →
    t.env.bus = s.env.bus ++ [{ out := 0x8400#16, answer := a }] →
    s.dl ≤ s.now ∧ s.head = s.tail ∧ s.pend.txs = false ∧ s.pend.dis = true

/-- R22, R52, R211, R212: the driver enable goes off only by an answered DEOFF, hence only past the deadline and with the queue
empty; and every character word answered leaves it on. -/
def Obligations.EnableDropsOnlyBySafeDisable : Prop :=
  ∀ s t : State, s.attached = true → step s = .next t →
    (s.de ≠ .off → t.de = .off →
      s.dl ≤ s.now ∧ s.head = s.tail ∧
      ∃ r, t.env.bus = s.env.bus ++ [{ out := 0x8400#16, answer := .ok r }]) ∧
    (∀ (f : Format) (c : Byte) (r : Word),
      t.env.bus = s.env.bus ++ [{ out := enc (.txd f c), answer := .ok r }] → t.de = .on)

/-- R205, R204: the deadline moves only by a transmitted character, an answered TXD of the active format, and always forward, to
`max(dl, now) + hold`; strictly forward with the table of R176, under which every hold is positive. -/
def Obligations.DeadlinesOnlyMoveForward : Prop :=
  ∀ s t : State, Inv s → s.attached = true → step s = .next t →
    t.dl = s.dl ∨
    (t.dl = max s.dl s.now + s.hold ∧ (s.board.baudTable = Config.baudTable → s.dl < t.dl ∧ s.now < t.dl) ∧ t.tc = s.now ∧ t.de = .on ∧
      ∃ c r, t.env.bus = s.env.bus ++ [{ out := enc (.txd s.fmt c), answer := .ok r }])

/-- R6, R288: the parameters never change while a Port exists, and it is never destroyed but by detach. That a Port attached after a
detach has the same parameters is the model's choice (log entry 8). -/
def Obligations.ParametersNeverChange : Prop :=
  ∀ s t : State, step s = .next t →
    t.board = s.board ∧ (s.attached = true → t.attached = true ∨ nextMove s.env = .host .detach)

/-- R354, R343: the first word after an open is the commit of the staged format, or the power-down of a suspend or a stop; and so
it is after a resume of a suspended line, unless the worker is at `End` when the host resumes: at the `End` of the suspend step, or
at that of a later activation halted by R239 (log entry 9). While the line is `Starting` there is no other word, and while it is
`Suspended` none but the power-down of a stop. Only an answered commit takes the chip out of power-down, bit 12 of its register. -/
def Obligations.SessionStartsWithACommit : Prop :=
  (∀ s t : State, Inv s → s.attached = true → step s = .next t →
    (nextMove s.env = .host .openPort ∧ s.line = .shutdown ∨
     nextMove s.env = .host .resume ∧ s.line = .suspended ∧ s.pend.stop = false ∧ s.phase ≠ .endPass) →
    CommitFirst t) ∧
  (∀ s t : State, Inv s → CommitFirst s → step s = .next t →
    (t.env.bus = s.env.bus ∧ CommitFirst t) ∨
    ∃ w a, t.env.bus = s.env.bus ++ [{ out := w, answer := a }] ∧ (w = enc (.cfg s.stg) ∨ w = enc (.pwrdn s.fmt))) ∧
  (∀ (s t : State) (w : Word) (a : Answer), Inv s → s.line = .starting → step s = .next t →
    t.env.bus = s.env.bus ++ [{ out := w, answer := a }] → w = enc (.cfg s.stg) ∨ w = enc (.pwrdn s.fmt)) ∧
  (∀ (s t : State) (w : Word) (a : Answer), Inv s → s.line = .suspended → step s = .next t →
    t.env.bus = s.env.bus ++ [{ out := w, answer := a }] → w = enc (.pwrdn s.fmt) ∧ s.pend.stop = true) ∧
  (∀ (s t : State) (b b' : BitVec 14), step s = .next t → s.chip = .known b → b.getLsbD 12 = true →
    t.chip = .known b' → b'.getLsbD 12 = false →
    ∃ r, t.env.bus = s.env.bus ++ [{ out := enc (.cfg s.stg), answer := .ok r }])

/-- R248: once a stop is requested, three worker steps in a row reach `Exited` and `Shutdown`, from any state a Port can be in,
whatever the bus and the sink answer; steps left over after the exit change nothing (log entry 1). -/
def Obligations.StopWithinThreeWorkerSteps : Prop :=
  ∀ (s : State) (rest : List Move), Inv s → s.attached = true → s.pend.stop = true →
    s.env.agenda = .worker :: .worker :: .worker :: rest →
    ∃ t, Sys2Proof.core.run 3 s = .next t ∧ t.phase = .exited ∧ t.line = .shutdown ∧ t.env.agenda = rest

/-- R246, R205, R243: with every exchange answered `0x4000` (R = 0, T = 1), no stop, suspend or flow stop, and no other agent moving,
the transmit loop sends exactly the queued bytes, in order, one word each, leaves the queue empty and the enable on, and puts the
deadline one hold per byte later. No disable word is among them. -/
def Obligations.TransmitLoopFlushesTheQueue : Prop :=
  ∀ (s : State) (moves : List Move) (answers : List Answer), Inv s → s.attached = true → s.phase = .tx →
    s.pend.stop = false → s.pend.susp = false → s.txstop = false → s.txe = true → 0 < qCount s →
    s.env.agenda = List.replicate (qCount s) .worker ++ moves →
    s.env.answers = List.replicate (qCount s) (.ok 0x4000#16) ++ answers →
    ∃ t, Sys2Proof.core.run (qCount s) s = .next t ∧
      t.env.bus = s.env.bus ++ (queued s).map (fun c => { out := enc (.txd s.fmt c), answer := .ok 0x4000#16 : Exchange }) ∧
      (queued s).length = qCount s ∧ t.head = s.head ∧ t.tail = s.head ∧ t.de = .on ∧ t.os = none ∧ t.phase = .tx ∧
      t.dl = max s.dl s.now + qCount s * s.hold ∧ t.ctr.ntx = s.ctr.ntx + qCount s

/-- A consequence of R238, R284, R206, R207, R208 and R236 that the derived sentences of R354, R343 and R245 leave out (log entry 9):
when the host resumes a suspended line while the worker is at `End`, after the suspend step or after a later halted activation, that
`End` arms the one-shot, and the disable word can reach the bus before the commit. -/
def Obligations.ResumeRaceDropsTheEnableFirst : Prop :=
  ∀ (s : State) (rest : List Move), Inv s → s.attached = true → s.line = .suspended → s.phase = .endPass →
    s.de = .unknown → s.os = none → s.pend.stop = false → s.pend.dis = false → s.pend.txs = false → s.fail = false →
    s.head = s.tail → s.dl ≤ s.now →
    s.env.agenda = .host .resume :: .worker :: .fire :: .worker :: rest →
    ∃ t a, Sys2Proof.core.run 4 s = .next t ∧ t.env.bus = s.env.bus ++ [{ out := 0x8400#16, answer := a }] ∧
      t.pend.cfg = true
end

