-- ==== Sys2Proof/Laws/State.lean ====
section
/-!
SUPPORT. What each small state update does to each field, so that no proof unfolds an update again. All hold by definition.
-/

namespace Sys2Proof.Machine

/-! ### `raise` -/

@[simp] theorem raise_board (e : Event) (s : State) : (raise e s).board = s.board := rfl
@[simp] theorem raise_attached (e : Event) (s : State) : (raise e s).attached = s.attached := rfl
@[simp] theorem raise_line (e : Event) (s : State) : (raise e s).line = s.line := rfl
@[simp] theorem raise_fmt (e : Event) (s : State) : (raise e s).fmt = s.fmt := rfl
@[simp] theorem raise_stg (e : Event) (s : State) : (raise e s).stg = s.stg := rfl
@[simp] theorem raise_hold (e : Event) (s : State) : (raise e s).hold = s.hold := rfl
@[simp] theorem raise_cts (e : Event) (s : State) : (raise e s).cts = s.cts := rfl
@[simp] theorem raise_txe (e : Event) (s : State) : (raise e s).txe = s.txe := rfl
@[simp] theorem raise_rxa (e : Event) (s : State) : (raise e s).rxa = s.rxa := rfl
@[simp] theorem raise_de (e : Event) (s : State) : (raise e s).de = s.de := rfl
@[simp] theorem raise_mem (e : Event) (s : State) : (raise e s).mem = s.mem := rfl
@[simp] theorem raise_head (e : Event) (s : State) : (raise e s).head = s.head := rfl
@[simp] theorem raise_tail (e : Event) (s : State) : (raise e s).tail = s.tail := rfl
@[simp] theorem raise_txstop (e : Event) (s : State) : (raise e s).txstop = s.txstop := rfl
@[simp] theorem raise_tc (e : Event) (s : State) : (raise e s).tc = s.tc := rfl
@[simp] theorem raise_dl (e : Event) (s : State) : (raise e s).dl = s.dl := rfl
@[simp] theorem raise_os (e : Event) (s : State) : (raise e s).os = s.os := rfl
@[simp] theorem raise_outcome (e : Event) (s : State) : (raise e s).outcome = s.outcome := rfl
@[simp] theorem raise_pend (e : Event) (s : State) : (raise e s).pend = s.pend := rfl
@[simp] theorem raise_wake (e : Event) (s : State) : (raise e s).wake = s.wake := rfl
@[simp] theorem raise_phase (e : Event) (s : State) : (raise e s).phase = s.phase := rfl
@[simp] theorem raise_armed (e : Event) (s : State) : (raise e s).armed = s.armed := rfl
@[simp] theorem raise_fail (e : Event) (s : State) : (raise e s).fail = s.fail := rfl
@[simp] theorem raise_now (e : Event) (s : State) : (raise e s).now = s.now := rfl
@[simp] theorem raise_npoll (e : Event) (s : State) : (raise e s).npoll = s.npoll := rfl
@[simp] theorem raise_rxbuf (e : Event) (s : State) : (raise e s).rxbuf = s.rxbuf := rfl
@[simp] theorem raise_ctr (e : Event) (s : State) : (raise e s).ctr = s.ctr := rfl
@[simp] theorem raise_log (e : Event) (s : State) : (raise e s).log = s.log ++ [{ event := e, time := s.now }] := rfl
@[simp] theorem raise_chip (e : Event) (s : State) : (raise e s).chip = s.chip := rfl
@[simp] theorem raise_env (e : Event) (s : State) : (raise e s).env = s.env := rfl

/-! ### `goto` -/

@[simp] theorem goto_board (p : Phase) (s : State) : (goto p s).board = s.board := rfl
@[simp] theorem goto_attached (p : Phase) (s : State) : (goto p s).attached = s.attached := rfl
@[simp] theorem goto_line (p : Phase) (s : State) : (goto p s).line = s.line := rfl
@[simp] theorem goto_fmt (p : Phase) (s : State) : (goto p s).fmt = s.fmt := rfl
@[simp] theorem goto_stg (p : Phase) (s : State) : (goto p s).stg = s.stg := rfl
@[simp] theorem goto_hold (p : Phase) (s : State) : (goto p s).hold = s.hold := rfl
@[simp] theorem goto_cts (p : Phase) (s : State) : (goto p s).cts = s.cts := rfl
@[simp] theorem goto_txe (p : Phase) (s : State) : (goto p s).txe = s.txe := rfl
@[simp] theorem goto_rxa (p : Phase) (s : State) : (goto p s).rxa = s.rxa := rfl
@[simp] theorem goto_de (p : Phase) (s : State) : (goto p s).de = s.de := rfl
@[simp] theorem goto_mem (p : Phase) (s : State) : (goto p s).mem = s.mem := rfl
@[simp] theorem goto_head (p : Phase) (s : State) : (goto p s).head = s.head := rfl
@[simp] theorem goto_tail (p : Phase) (s : State) : (goto p s).tail = s.tail := rfl
@[simp] theorem goto_txstop (p : Phase) (s : State) : (goto p s).txstop = s.txstop := rfl
@[simp] theorem goto_tc (p : Phase) (s : State) : (goto p s).tc = s.tc := rfl
@[simp] theorem goto_dl (p : Phase) (s : State) : (goto p s).dl = s.dl := rfl
@[simp] theorem goto_os (p : Phase) (s : State) : (goto p s).os = s.os := rfl
@[simp] theorem goto_outcome (p : Phase) (s : State) : (goto p s).outcome = s.outcome := rfl
@[simp] theorem goto_pend (p : Phase) (s : State) : (goto p s).pend = s.pend := rfl
@[simp] theorem goto_wake (p : Phase) (s : State) : (goto p s).wake = s.wake := rfl
@[simp] theorem goto_phase (p : Phase) (s : State) : (goto p s).phase = p := rfl
@[simp] theorem goto_armed (p : Phase) (s : State) : (goto p s).armed = s.armed := rfl
@[simp] theorem goto_fail (p : Phase) (s : State) : (goto p s).fail = s.fail := rfl
@[simp] theorem goto_now (p : Phase) (s : State) : (goto p s).now = s.now := rfl
@[simp] theorem goto_npoll (p : Phase) (s : State) : (goto p s).npoll = s.npoll := rfl
@[simp] theorem goto_rxbuf (p : Phase) (s : State) : (goto p s).rxbuf = s.rxbuf := rfl
@[simp] theorem goto_ctr (p : Phase) (s : State) : (goto p s).ctr = s.ctr := rfl
@[simp] theorem goto_log (p : Phase) (s : State) : (goto p s).log = s.log := rfl
@[simp] theorem goto_chip (p : Phase) (s : State) : (goto p s).chip = s.chip := rfl
@[simp] theorem goto_env (p : Phase) (s : State) : (goto p s).env = s.env := rfl

/-! ### `setPend` -/

@[simp] theorem setPend_board (f : PendingFlags → PendingFlags) (s : State) : (setPend f s).board = s.board := rfl
@[simp] theorem setPend_attached (f : PendingFlags → PendingFlags) (s : State) : (setPend f s).attached = s.attached := rfl
@[simp] theorem setPend_line (f : PendingFlags → PendingFlags) (s : State) : (setPend f s).line = s.line := rfl
@[simp] theorem setPend_fmt (f : PendingFlags → PendingFlags) (s : State) : (setPend f s).fmt = s.fmt := rfl
@[simp] theorem setPend_stg (f : PendingFlags → PendingFlags) (s : State) : (setPend f s).stg = s.stg := rfl
@[simp] theorem setPend_hold (f : PendingFlags → PendingFlags) (s : State) : (setPend f s).hold = s.hold := rfl
@[simp] theorem setPend_cts (f : PendingFlags → PendingFlags) (s : State) : (setPend f s).cts = s.cts := rfl
@[simp] theorem setPend_txe (f : PendingFlags → PendingFlags) (s : State) : (setPend f s).txe = s.txe := rfl
@[simp] theorem setPend_rxa (f : PendingFlags → PendingFlags) (s : State) : (setPend f s).rxa = s.rxa := rfl
@[simp] theorem setPend_de (f : PendingFlags → PendingFlags) (s : State) : (setPend f s).de = s.de := rfl
@[simp] theorem setPend_mem (f : PendingFlags → PendingFlags) (s : State) : (setPend f s).mem = s.mem := rfl
@[simp] theorem setPend_head (f : PendingFlags → PendingFlags) (s : State) : (setPend f s).head = s.head := rfl
@[simp] theorem setPend_tail (f : PendingFlags → PendingFlags) (s : State) : (setPend f s).tail = s.tail := rfl
@[simp] theorem setPend_txstop (f : PendingFlags → PendingFlags) (s : State) : (setPend f s).txstop = s.txstop := rfl
@[simp] theorem setPend_tc (f : PendingFlags → PendingFlags) (s : State) : (setPend f s).tc = s.tc := rfl
@[simp] theorem setPend_dl (f : PendingFlags → PendingFlags) (s : State) : (setPend f s).dl = s.dl := rfl
@[simp] theorem setPend_os (f : PendingFlags → PendingFlags) (s : State) : (setPend f s).os = s.os := rfl
@[simp] theorem setPend_outcome (f : PendingFlags → PendingFlags) (s : State) : (setPend f s).outcome = s.outcome := rfl
@[simp] theorem setPend_pend (f : PendingFlags → PendingFlags) (s : State) : (setPend f s).pend = f s.pend := rfl
@[simp] theorem setPend_wake (f : PendingFlags → PendingFlags) (s : State) : (setPend f s).wake = s.wake := rfl
@[simp] theorem setPend_phase (f : PendingFlags → PendingFlags) (s : State) : (setPend f s).phase = s.phase := rfl
@[simp] theorem setPend_armed (f : PendingFlags → PendingFlags) (s : State) : (setPend f s).armed = s.armed := rfl
@[simp] theorem setPend_fail (f : PendingFlags → PendingFlags) (s : State) : (setPend f s).fail = s.fail := rfl
@[simp] theorem setPend_now (f : PendingFlags → PendingFlags) (s : State) : (setPend f s).now = s.now := rfl
@[simp] theorem setPend_npoll (f : PendingFlags → PendingFlags) (s : State) : (setPend f s).npoll = s.npoll := rfl
@[simp] theorem setPend_rxbuf (f : PendingFlags → PendingFlags) (s : State) : (setPend f s).rxbuf = s.rxbuf := rfl
@[simp] theorem setPend_ctr (f : PendingFlags → PendingFlags) (s : State) : (setPend f s).ctr = s.ctr := rfl
@[simp] theorem setPend_log (f : PendingFlags → PendingFlags) (s : State) : (setPend f s).log = s.log := rfl
@[simp] theorem setPend_chip (f : PendingFlags → PendingFlags) (s : State) : (setPend f s).chip = s.chip := rfl
@[simp] theorem setPend_env (f : PendingFlags → PendingFlags) (s : State) : (setPend f s).env = s.env := rfl

/-! ### `setAndWake` -/

@[simp] theorem setAndWake_board (f : PendingFlags → PendingFlags) (s : State) : (setAndWake f s).board = s.board := rfl
@[simp] theorem setAndWake_attached (f : PendingFlags → PendingFlags) (s : State) : (setAndWake f s).attached = s.attached := rfl
@[simp] theorem setAndWake_line (f : PendingFlags → PendingFlags) (s : State) : (setAndWake f s).line = s.line := rfl
@[simp] theorem setAndWake_fmt (f : PendingFlags → PendingFlags) (s : State) : (setAndWake f s).fmt = s.fmt := rfl
@[simp] theorem setAndWake_stg (f : PendingFlags → PendingFlags) (s : State) : (setAndWake f s).stg = s.stg := rfl
@[simp] theorem setAndWake_hold (f : PendingFlags → PendingFlags) (s : State) : (setAndWake f s).hold = s.hold := rfl
@[simp] theorem setAndWake_cts (f : PendingFlags → PendingFlags) (s : State) : (setAndWake f s).cts = s.cts := rfl
@[simp] theorem setAndWake_txe (f : PendingFlags → PendingFlags) (s : State) : (setAndWake f s).txe = s.txe := rfl
@[simp] theorem setAndWake_rxa (f : PendingFlags → PendingFlags) (s : State) : (setAndWake f s).rxa = s.rxa := rfl
@[simp] theorem setAndWake_de (f : PendingFlags → PendingFlags) (s : State) : (setAndWake f s).de = s.de := rfl
@[simp] theorem setAndWake_mem (f : PendingFlags → PendingFlags) (s : State) : (setAndWake f s).mem = s.mem := rfl
@[simp] theorem setAndWake_head (f : PendingFlags → PendingFlags) (s : State) : (setAndWake f s).head = s.head := rfl
@[simp] theorem setAndWake_tail (f : PendingFlags → PendingFlags) (s : State) : (setAndWake f s).tail = s.tail := rfl
@[simp] theorem setAndWake_txstop (f : PendingFlags → PendingFlags) (s : State) : (setAndWake f s).txstop = s.txstop := rfl
@[simp] theorem setAndWake_tc (f : PendingFlags → PendingFlags) (s : State) : (setAndWake f s).tc = s.tc := rfl
@[simp] theorem setAndWake_dl (f : PendingFlags → PendingFlags) (s : State) : (setAndWake f s).dl = s.dl := rfl
@[simp] theorem setAndWake_os (f : PendingFlags → PendingFlags) (s : State) : (setAndWake f s).os = s.os := rfl
@[simp] theorem setAndWake_outcome (f : PendingFlags → PendingFlags) (s : State) : (setAndWake f s).outcome = s.outcome := rfl
@[simp] theorem setAndWake_pend (f : PendingFlags → PendingFlags) (s : State) : (setAndWake f s).pend = f s.pend := rfl
@[simp] theorem setAndWake_wake (f : PendingFlags → PendingFlags) (s : State) : (setAndWake f s).wake = true := rfl
@[simp] theorem setAndWake_phase (f : PendingFlags → PendingFlags) (s : State) : (setAndWake f s).phase = s.phase := rfl
@[simp] theorem setAndWake_armed (f : PendingFlags → PendingFlags) (s : State) : (setAndWake f s).armed = s.armed := rfl
@[simp] theorem setAndWake_fail (f : PendingFlags → PendingFlags) (s : State) : (setAndWake f s).fail = s.fail := rfl
@[simp] theorem setAndWake_now (f : PendingFlags → PendingFlags) (s : State) : (setAndWake f s).now = s.now := rfl
@[simp] theorem setAndWake_npoll (f : PendingFlags → PendingFlags) (s : State) : (setAndWake f s).npoll = s.npoll := rfl
@[simp] theorem setAndWake_rxbuf (f : PendingFlags → PendingFlags) (s : State) : (setAndWake f s).rxbuf = s.rxbuf := rfl
@[simp] theorem setAndWake_ctr (f : PendingFlags → PendingFlags) (s : State) : (setAndWake f s).ctr = s.ctr := rfl
@[simp] theorem setAndWake_log (f : PendingFlags → PendingFlags) (s : State) : (setAndWake f s).log = s.log := rfl
@[simp] theorem setAndWake_chip (f : PendingFlags → PendingFlags) (s : State) : (setAndWake f s).chip = s.chip := rfl
@[simp] theorem setAndWake_env (f : PendingFlags → PendingFlags) (s : State) : (setAndWake f s).env = s.env := rfl

/-! ### `decodeStatus` -/

@[simp] theorem decodeStatus_board (r : Word) (s : State) : (decodeStatus r s).board = s.board := rfl
@[simp] theorem decodeStatus_attached (r : Word) (s : State) : (decodeStatus r s).attached = s.attached := rfl
@[simp] theorem decodeStatus_line (r : Word) (s : State) : (decodeStatus r s).line = s.line := rfl
@[simp] theorem decodeStatus_fmt (r : Word) (s : State) : (decodeStatus r s).fmt = s.fmt := rfl
@[simp] theorem decodeStatus_stg (r : Word) (s : State) : (decodeStatus r s).stg = s.stg := rfl
@[simp] theorem decodeStatus_hold (r : Word) (s : State) : (decodeStatus r s).hold = s.hold := rfl
@[simp] theorem decodeStatus_cts (r : Word) (s : State) : (decodeStatus r s).cts = s.cts := rfl
@[simp] theorem decodeStatus_txe (r : Word) (s : State) : (decodeStatus r s).txe = respT r := rfl
@[simp] theorem decodeStatus_rxa (r : Word) (s : State) : (decodeStatus r s).rxa = respR r := rfl
@[simp] theorem decodeStatus_de (r : Word) (s : State) : (decodeStatus r s).de = s.de := rfl
@[simp] theorem decodeStatus_mem (r : Word) (s : State) : (decodeStatus r s).mem = s.mem := rfl
@[simp] theorem decodeStatus_head (r : Word) (s : State) : (decodeStatus r s).head = s.head := rfl
@[simp] theorem decodeStatus_tail (r : Word) (s : State) : (decodeStatus r s).tail = s.tail := rfl
@[simp] theorem decodeStatus_txstop (r : Word) (s : State) : (decodeStatus r s).txstop = s.txstop := rfl
@[simp] theorem decodeStatus_tc (r : Word) (s : State) : (decodeStatus r s).tc = s.tc := rfl
@[simp] theorem decodeStatus_dl (r : Word) (s : State) : (decodeStatus r s).dl = s.dl := rfl
@[simp] theorem decodeStatus_os (r : Word) (s : State) : (decodeStatus r s).os = s.os := rfl
@[simp] theorem decodeStatus_outcome (r : Word) (s : State) : (decodeStatus r s).outcome = s.outcome := rfl
@[simp] theorem decodeStatus_pend (r : Word) (s : State) : (decodeStatus r s).pend = s.pend := rfl
@[simp] theorem decodeStatus_wake (r : Word) (s : State) : (decodeStatus r s).wake = s.wake := rfl
@[simp] theorem decodeStatus_phase (r : Word) (s : State) : (decodeStatus r s).phase = s.phase := rfl
@[simp] theorem decodeStatus_armed (r : Word) (s : State) : (decodeStatus r s).armed = s.armed := rfl
@[simp] theorem decodeStatus_fail (r : Word) (s : State) : (decodeStatus r s).fail = s.fail := rfl
@[simp] theorem decodeStatus_now (r : Word) (s : State) : (decodeStatus r s).now = s.now := rfl
@[simp] theorem decodeStatus_npoll (r : Word) (s : State) : (decodeStatus r s).npoll = s.npoll := rfl
@[simp] theorem decodeStatus_rxbuf (r : Word) (s : State) : (decodeStatus r s).rxbuf = s.rxbuf := rfl
@[simp] theorem decodeStatus_ctr (r : Word) (s : State) : (decodeStatus r s).ctr = s.ctr := rfl
@[simp] theorem decodeStatus_log (r : Word) (s : State) : (decodeStatus r s).log = s.log := rfl
@[simp] theorem decodeStatus_chip (r : Word) (s : State) : (decodeStatus r s).chip = s.chip := rfl
@[simp] theorem decodeStatus_env (r : Word) (s : State) : (decodeStatus r s).env = s.env := rfl

/-! ### `decodeData` -/

@[simp] theorem decodeData_board (r : Word) (s : State) : (decodeData r s).board = s.board := rfl
@[simp] theorem decodeData_attached (r : Word) (s : State) : (decodeData r s).attached = s.attached := rfl
@[simp] theorem decodeData_line (r : Word) (s : State) : (decodeData r s).line = s.line := rfl
@[simp] theorem decodeData_fmt (r : Word) (s : State) : (decodeData r s).fmt = s.fmt := rfl
@[simp] theorem decodeData_stg (r : Word) (s : State) : (decodeData r s).stg = s.stg := rfl
@[simp] theorem decodeData_hold (r : Word) (s : State) : (decodeData r s).hold = s.hold := rfl
@[simp] theorem decodeData_cts (r : Word) (s : State) : (decodeData r s).cts = respCTS r := rfl
@[simp] theorem decodeData_txe (r : Word) (s : State) : (decodeData r s).txe = s.txe := rfl
@[simp] theorem decodeData_rxa (r : Word) (s : State) : (decodeData r s).rxa = s.rxa := rfl
@[simp] theorem decodeData_de (r : Word) (s : State) : (decodeData r s).de = s.de := rfl
@[simp] theorem decodeData_mem (r : Word) (s : State) : (decodeData r s).mem = s.mem := rfl
@[simp] theorem decodeData_head (r : Word) (s : State) : (decodeData r s).head = s.head := rfl
@[simp] theorem decodeData_tail (r : Word) (s : State) : (decodeData r s).tail = s.tail := rfl
@[simp] theorem decodeData_txstop (r : Word) (s : State) : (decodeData r s).txstop = s.txstop := rfl
@[simp] theorem decodeData_tc (r : Word) (s : State) : (decodeData r s).tc = s.tc := rfl
@[simp] theorem decodeData_dl (r : Word) (s : State) : (decodeData r s).dl = s.dl := rfl
@[simp] theorem decodeData_os (r : Word) (s : State) : (decodeData r s).os = s.os := rfl
@[simp] theorem decodeData_outcome (r : Word) (s : State) : (decodeData r s).outcome = s.outcome := rfl
@[simp] theorem decodeData_pend (r : Word) (s : State) : (decodeData r s).pend = s.pend := rfl
@[simp] theorem decodeData_wake (r : Word) (s : State) : (decodeData r s).wake = s.wake := rfl
@[simp] theorem decodeData_phase (r : Word) (s : State) : (decodeData r s).phase = s.phase := rfl
@[simp] theorem decodeData_armed (r : Word) (s : State) : (decodeData r s).armed = s.armed := rfl
@[simp] theorem decodeData_fail (r : Word) (s : State) : (decodeData r s).fail = s.fail := rfl
@[simp] theorem decodeData_now (r : Word) (s : State) : (decodeData r s).now = s.now := rfl
@[simp] theorem decodeData_npoll (r : Word) (s : State) : (decodeData r s).npoll = s.npoll := rfl
@[simp] theorem decodeData_rxbuf (r : Word) (s : State) : (decodeData r s).rxbuf = s.rxbuf := rfl
@[simp] theorem decodeData_ctr (r : Word) (s : State) : (decodeData r s).ctr = s.ctr := rfl
@[simp] theorem decodeData_log (r : Word) (s : State) : (decodeData r s).log = s.log := rfl
@[simp] theorem decodeData_chip (r : Word) (s : State) : (decodeData r s).chip = s.chip := rfl
@[simp] theorem decodeData_env (r : Word) (s : State) : (decodeData r s).env = s.env := rfl

/-! ### `exchanged` -/

@[simp] theorem exchanged_board (w : Word) (s : State) : (exchanged w s).board = s.board := rfl
@[simp] theorem exchanged_attached (w : Word) (s : State) : (exchanged w s).attached = s.attached := rfl
@[simp] theorem exchanged_line (w : Word) (s : State) : (exchanged w s).line = s.line := rfl
@[simp] theorem exchanged_fmt (w : Word) (s : State) : (exchanged w s).fmt = s.fmt := rfl
@[simp] theorem exchanged_stg (w : Word) (s : State) : (exchanged w s).stg = s.stg := rfl
@[simp] theorem exchanged_hold (w : Word) (s : State) : (exchanged w s).hold = s.hold := rfl
@[simp] theorem exchanged_cts (w : Word) (s : State) : (exchanged w s).cts = s.cts := rfl
@[simp] theorem exchanged_txe (w : Word) (s : State) : (exchanged w s).txe = s.txe := rfl
@[simp] theorem exchanged_rxa (w : Word) (s : State) : (exchanged w s).rxa = s.rxa := rfl
@[simp] theorem exchanged_de (w : Word) (s : State) : (exchanged w s).de = s.de := rfl
@[simp] theorem exchanged_mem (w : Word) (s : State) : (exchanged w s).mem = s.mem := rfl
@[simp] theorem exchanged_head (w : Word) (s : State) : (exchanged w s).head = s.head := rfl
@[simp] theorem exchanged_tail (w : Word) (s : State) : (exchanged w s).tail = s.tail := rfl
@[simp] theorem exchanged_txstop (w : Word) (s : State) : (exchanged w s).txstop = s.txstop := rfl
@[simp] theorem exchanged_tc (w : Word) (s : State) : (exchanged w s).tc = s.tc := rfl
@[simp] theorem exchanged_dl (w : Word) (s : State) : (exchanged w s).dl = s.dl := rfl
@[simp] theorem exchanged_os (w : Word) (s : State) : (exchanged w s).os = s.os := rfl
@[simp] theorem exchanged_outcome (w : Word) (s : State) : (exchanged w s).outcome = s.outcome := rfl
@[simp] theorem exchanged_pend (w : Word) (s : State) : (exchanged w s).pend = s.pend := rfl
@[simp] theorem exchanged_wake (w : Word) (s : State) : (exchanged w s).wake = s.wake := rfl
@[simp] theorem exchanged_phase (w : Word) (s : State) : (exchanged w s).phase = s.phase := rfl
@[simp] theorem exchanged_armed (w : Word) (s : State) : (exchanged w s).armed = s.armed := rfl
@[simp] theorem exchanged_fail (w : Word) (s : State) : (exchanged w s).fail = s.fail := rfl
@[simp] theorem exchanged_now (w : Word) (s : State) : (exchanged w s).now = s.now := rfl
@[simp] theorem exchanged_npoll (w : Word) (s : State) : (exchanged w s).npoll = s.npoll := rfl
@[simp] theorem exchanged_rxbuf (w : Word) (s : State) : (exchanged w s).rxbuf = s.rxbuf := rfl
@[simp] theorem exchanged_ctr (w : Word) (s : State) : (exchanged w s).ctr = s.ctr := rfl
@[simp] theorem exchanged_log (w : Word) (s : State) : (exchanged w s).log = s.log := rfl
@[simp] theorem exchanged_chip (w : Word) (s : State) : (exchanged w s).chip = chipAfter w (nextAnswer s.env) s.chip := rfl
@[simp] theorem exchanged_env (w : Word) (s : State) : (exchanged w s).env = afterAnswer w s.env := rfl

/-! ### `reply` -/

@[simp] theorem reply_board (r : Reply) (s : State) : (reply r s).board = s.board := rfl
@[simp] theorem reply_attached (r : Reply) (s : State) : (reply r s).attached = s.attached := rfl
@[simp] theorem reply_line (r : Reply) (s : State) : (reply r s).line = s.line := rfl
@[simp] theorem reply_fmt (r : Reply) (s : State) : (reply r s).fmt = s.fmt := rfl
@[simp] theorem reply_stg (r : Reply) (s : State) : (reply r s).stg = s.stg := rfl
@[simp] theorem reply_hold (r : Reply) (s : State) : (reply r s).hold = s.hold := rfl
@[simp] theorem reply_cts (r : Reply) (s : State) : (reply r s).cts = s.cts := rfl
@[simp] theorem reply_txe (r : Reply) (s : State) : (reply r s).txe = s.txe := rfl
@[simp] theorem reply_rxa (r : Reply) (s : State) : (reply r s).rxa = s.rxa := rfl
@[simp] theorem reply_de (r : Reply) (s : State) : (reply r s).de = s.de := rfl
@[simp] theorem reply_mem (r : Reply) (s : State) : (reply r s).mem = s.mem := rfl
@[simp] theorem reply_head (r : Reply) (s : State) : (reply r s).head = s.head := rfl
@[simp] theorem reply_tail (r : Reply) (s : State) : (reply r s).tail = s.tail := rfl
@[simp] theorem reply_txstop (r : Reply) (s : State) : (reply r s).txstop = s.txstop := rfl
@[simp] theorem reply_tc (r : Reply) (s : State) : (reply r s).tc = s.tc := rfl
@[simp] theorem reply_dl (r : Reply) (s : State) : (reply r s).dl = s.dl := rfl
@[simp] theorem reply_os (r : Reply) (s : State) : (reply r s).os = s.os := rfl
@[simp] theorem reply_outcome (r : Reply) (s : State) : (reply r s).outcome = s.outcome := rfl
@[simp] theorem reply_pend (r : Reply) (s : State) : (reply r s).pend = s.pend := rfl
@[simp] theorem reply_wake (r : Reply) (s : State) : (reply r s).wake = s.wake := rfl
@[simp] theorem reply_phase (r : Reply) (s : State) : (reply r s).phase = s.phase := rfl
@[simp] theorem reply_armed (r : Reply) (s : State) : (reply r s).armed = s.armed := rfl
@[simp] theorem reply_fail (r : Reply) (s : State) : (reply r s).fail = s.fail := rfl
@[simp] theorem reply_now (r : Reply) (s : State) : (reply r s).now = s.now := rfl
@[simp] theorem reply_npoll (r : Reply) (s : State) : (reply r s).npoll = s.npoll := rfl
@[simp] theorem reply_rxbuf (r : Reply) (s : State) : (reply r s).rxbuf = s.rxbuf := rfl
@[simp] theorem reply_ctr (r : Reply) (s : State) : (reply r s).ctr = s.ctr := rfl
@[simp] theorem reply_log (r : Reply) (s : State) : (reply r s).log = s.log := rfl
@[simp] theorem reply_chip (r : Reply) (s : State) : (reply r s).chip = s.chip := rfl
@[simp] theorem reply_env (r : Reply) (s : State) : (reply r s).env = { s.env with replies := s.env.replies ++ [r] } := rfl

/-! ### `recordTx` -/

@[simp] theorem recordTx_board (t : Nat) (s : State) : (recordTx t s).board = s.board := rfl
@[simp] theorem recordTx_attached (t : Nat) (s : State) : (recordTx t s).attached = s.attached := rfl
@[simp] theorem recordTx_line (t : Nat) (s : State) : (recordTx t s).line = s.line := rfl
@[simp] theorem recordTx_fmt (t : Nat) (s : State) : (recordTx t s).fmt = s.fmt := rfl
@[simp] theorem recordTx_stg (t : Nat) (s : State) : (recordTx t s).stg = s.stg := rfl
@[simp] theorem recordTx_hold (t : Nat) (s : State) : (recordTx t s).hold = s.hold := rfl
@[simp] theorem recordTx_cts (t : Nat) (s : State) : (recordTx t s).cts = s.cts := rfl
@[simp] theorem recordTx_txe (t : Nat) (s : State) : (recordTx t s).txe = s.txe := rfl
@[simp] theorem recordTx_rxa (t : Nat) (s : State) : (recordTx t s).rxa = s.rxa := rfl
@[simp] theorem recordTx_de (t : Nat) (s : State) : (recordTx t s).de = s.de := rfl
@[simp] theorem recordTx_mem (t : Nat) (s : State) : (recordTx t s).mem = s.mem := rfl
@[simp] theorem recordTx_head (t : Nat) (s : State) : (recordTx t s).head = s.head := rfl
@[simp] theorem recordTx_tail (t : Nat) (s : State) : (recordTx t s).tail = s.tail := rfl
@[simp] theorem recordTx_txstop (t : Nat) (s : State) : (recordTx t s).txstop = s.txstop := rfl
@[simp] theorem recordTx_tc (t : Nat) (s : State) : (recordTx t s).tc = t := rfl
@[simp] theorem recordTx_dl (t : Nat) (s : State) : (recordTx t s).dl = if t < s.dl then s.dl + s.hold else t + s.hold := rfl
@[simp] theorem recordTx_os (t : Nat) (s : State) : (recordTx t s).os = s.os := rfl
@[simp] theorem recordTx_outcome (t : Nat) (s : State) : (recordTx t s).outcome = s.outcome := rfl
@[simp] theorem recordTx_pend (t : Nat) (s : State) : (recordTx t s).pend = s.pend := rfl
@[simp] theorem recordTx_wake (t : Nat) (s : State) : (recordTx t s).wake = s.wake := rfl
@[simp] theorem recordTx_phase (t : Nat) (s : State) : (recordTx t s).phase = s.phase := rfl
@[simp] theorem recordTx_armed (t : Nat) (s : State) : (recordTx t s).armed = s.armed := rfl
@[simp] theorem recordTx_fail (t : Nat) (s : State) : (recordTx t s).fail = s.fail := rfl
@[simp] theorem recordTx_now (t : Nat) (s : State) : (recordTx t s).now = s.now := rfl
@[simp] theorem recordTx_npoll (t : Nat) (s : State) : (recordTx t s).npoll = s.npoll := rfl
@[simp] theorem recordTx_rxbuf (t : Nat) (s : State) : (recordTx t s).rxbuf = s.rxbuf := rfl
@[simp] theorem recordTx_ctr (t : Nat) (s : State) : (recordTx t s).ctr = s.ctr := rfl
@[simp] theorem recordTx_log (t : Nat) (s : State) : (recordTx t s).log = s.log := rfl
@[simp] theorem recordTx_chip (t : Nat) (s : State) : (recordTx t s).chip = s.chip := rfl
@[simp] theorem recordTx_env (t : Nat) (s : State) : (recordTx t s).env = s.env := rfl

/-! ### `takeActivation` -/

@[simp] theorem takeActivation_board (s : State) : (takeActivation s).board = s.board := rfl
@[simp] theorem takeActivation_attached (s : State) : (takeActivation s).attached = s.attached := rfl
@[simp] theorem takeActivation_line (s : State) : (takeActivation s).line = s.line := rfl
@[simp] theorem takeActivation_fmt (s : State) : (takeActivation s).fmt = s.fmt := rfl
@[simp] theorem takeActivation_stg (s : State) : (takeActivation s).stg = s.stg := rfl
@[simp] theorem takeActivation_hold (s : State) : (takeActivation s).hold = s.hold := rfl
@[simp] theorem takeActivation_cts (s : State) : (takeActivation s).cts = s.cts := rfl
@[simp] theorem takeActivation_txe (s : State) : (takeActivation s).txe = s.txe := rfl
@[simp] theorem takeActivation_rxa (s : State) : (takeActivation s).rxa = s.rxa := rfl
@[simp] theorem takeActivation_de (s : State) : (takeActivation s).de = s.de := rfl
@[simp] theorem takeActivation_mem (s : State) : (takeActivation s).mem = s.mem := rfl
@[simp] theorem takeActivation_head (s : State) : (takeActivation s).head = s.head := rfl
@[simp] theorem takeActivation_tail (s : State) : (takeActivation s).tail = s.tail := rfl
@[simp] theorem takeActivation_txstop (s : State) : (takeActivation s).txstop = s.txstop := rfl
@[simp] theorem takeActivation_tc (s : State) : (takeActivation s).tc = s.tc := rfl
@[simp] theorem takeActivation_dl (s : State) : (takeActivation s).dl = s.dl := rfl
@[simp] theorem takeActivation_os (s : State) : (takeActivation s).os = s.os := rfl
@[simp] theorem takeActivation_outcome (s : State) : (takeActivation s).outcome = s.outcome := rfl
@[simp] theorem takeActivation_pend (s : State) : (takeActivation s).pend = s.pend := rfl
@[simp] theorem takeActivation_wake (s : State) : (takeActivation s).wake = false := rfl
@[simp] theorem takeActivation_phase (s : State) : (takeActivation s).phase = .top := rfl
@[simp] theorem takeActivation_armed (s : State) : (takeActivation s).armed = s.armed := rfl
@[simp] theorem takeActivation_fail (s : State) : (takeActivation s).fail = false := rfl
@[simp] theorem takeActivation_now (s : State) : (takeActivation s).now = s.now := rfl
@[simp] theorem takeActivation_npoll (s : State) : (takeActivation s).npoll = s.npoll := rfl
@[simp] theorem takeActivation_rxbuf (s : State) : (takeActivation s).rxbuf = s.rxbuf := rfl
@[simp] theorem takeActivation_ctr (s : State) : (takeActivation s).ctr = s.ctr := rfl
@[simp] theorem takeActivation_log (s : State) : (takeActivation s).log = s.log := rfl
@[simp] theorem takeActivation_chip (s : State) : (takeActivation s).chip = s.chip := rfl
@[simp] theorem takeActivation_env (s : State) : (takeActivation s).env = s.env := rfl

/-! ### `stopped` -/

@[simp] theorem stopped_board (s : State) : (stopped s).board = s.board := rfl
@[simp] theorem stopped_attached (s : State) : (stopped s).attached = s.attached := rfl
@[simp] theorem stopped_line (s : State) : (stopped s).line = .shutdown := rfl
@[simp] theorem stopped_fmt (s : State) : (stopped s).fmt = s.fmt := rfl
@[simp] theorem stopped_stg (s : State) : (stopped s).stg = s.stg := rfl
@[simp] theorem stopped_hold (s : State) : (stopped s).hold = s.hold := rfl
@[simp] theorem stopped_cts (s : State) : (stopped s).cts = s.cts := rfl
@[simp] theorem stopped_txe (s : State) : (stopped s).txe = s.txe := rfl
@[simp] theorem stopped_rxa (s : State) : (stopped s).rxa = s.rxa := rfl
@[simp] theorem stopped_de (s : State) : (stopped s).de = .unknown := rfl
@[simp] theorem stopped_mem (s : State) : (stopped s).mem = s.mem := rfl
@[simp] theorem stopped_head (s : State) : (stopped s).head = s.head := rfl
@[simp] theorem stopped_tail (s : State) : (stopped s).tail = s.head := rfl
@[simp] theorem stopped_txstop (s : State) : (stopped s).txstop = s.txstop := rfl
@[simp] theorem stopped_tc (s : State) : (stopped s).tc = s.tc := rfl
@[simp] theorem stopped_dl (s : State) : (stopped s).dl = s.dl := rfl
@[simp] theorem stopped_os (s : State) : (stopped s).os = none := rfl
@[simp] theorem stopped_outcome (s : State) : (stopped s).outcome = s.outcome := rfl
@[simp] theorem stopped_pend (s : State) : (stopped s).pend = PendingFlags.none := rfl
@[simp] theorem stopped_wake (s : State) : (stopped s).wake = false := rfl
@[simp] theorem stopped_phase (s : State) : (stopped s).phase = .exited := rfl
@[simp] theorem stopped_armed (s : State) : (stopped s).armed = false := rfl
@[simp] theorem stopped_fail (s : State) : (stopped s).fail = s.fail := rfl
@[simp] theorem stopped_now (s : State) : (stopped s).now = s.now := rfl
@[simp] theorem stopped_npoll (s : State) : (stopped s).npoll = s.npoll := rfl
@[simp] theorem stopped_rxbuf (s : State) : (stopped s).rxbuf = s.rxbuf := rfl
@[simp] theorem stopped_ctr (s : State) : (stopped s).ctr = s.ctr := rfl
@[simp] theorem stopped_log (s : State) : (stopped s).log = s.log := rfl
@[simp] theorem stopped_chip (s : State) : (stopped s).chip = s.chip := rfl
@[simp] theorem stopped_env (s : State) : (stopped s).env = s.env := rfl

/-! ### `cancelDisable` -/

@[simp] theorem cancelDisable_board (s : State) : (cancelDisable s).board = s.board := rfl
@[simp] theorem cancelDisable_attached (s : State) : (cancelDisable s).attached = s.attached := rfl
@[simp] theorem cancelDisable_line (s : State) : (cancelDisable s).line = s.line := rfl
@[simp] theorem cancelDisable_fmt (s : State) : (cancelDisable s).fmt = s.fmt := rfl
@[simp] theorem cancelDisable_stg (s : State) : (cancelDisable s).stg = s.stg := rfl
@[simp] theorem cancelDisable_hold (s : State) : (cancelDisable s).hold = s.hold := rfl
@[simp] theorem cancelDisable_cts (s : State) : (cancelDisable s).cts = s.cts := rfl
@[simp] theorem cancelDisable_txe (s : State) : (cancelDisable s).txe = s.txe := rfl
@[simp] theorem cancelDisable_rxa (s : State) : (cancelDisable s).rxa = s.rxa := rfl
@[simp] theorem cancelDisable_de (s : State) : (cancelDisable s).de = s.de := rfl
@[simp] theorem cancelDisable_mem (s : State) : (cancelDisable s).mem = s.mem := rfl
@[simp] theorem cancelDisable_head (s : State) : (cancelDisable s).head = s.head := rfl
@[simp] theorem cancelDisable_tail (s : State) : (cancelDisable s).tail = s.tail := rfl
@[simp] theorem cancelDisable_txstop (s : State) : (cancelDisable s).txstop = s.txstop := rfl
@[simp] theorem cancelDisable_tc (s : State) : (cancelDisable s).tc = s.tc := rfl
@[simp] theorem cancelDisable_dl (s : State) : (cancelDisable s).dl = s.dl := rfl
@[simp] theorem cancelDisable_os (s : State) : (cancelDisable s).os = none := rfl
@[simp] theorem cancelDisable_outcome (s : State) : (cancelDisable s).outcome = if s.os ≠ none ∨ s.pend.dis = true then some .superseded else s.outcome := rfl
@[simp] theorem cancelDisable_pend (s : State) : (cancelDisable s).pend = { s.pend with dis := false } := rfl
@[simp] theorem cancelDisable_wake (s : State) : (cancelDisable s).wake = s.wake := rfl
@[simp] theorem cancelDisable_phase (s : State) : (cancelDisable s).phase = s.phase := rfl
@[simp] theorem cancelDisable_armed (s : State) : (cancelDisable s).armed = s.armed := rfl
@[simp] theorem cancelDisable_fail (s : State) : (cancelDisable s).fail = s.fail := rfl
@[simp] theorem cancelDisable_now (s : State) : (cancelDisable s).now = s.now := rfl
@[simp] theorem cancelDisable_npoll (s : State) : (cancelDisable s).npoll = s.npoll := rfl
@[simp] theorem cancelDisable_rxbuf (s : State) : (cancelDisable s).rxbuf = s.rxbuf := rfl
@[simp] theorem cancelDisable_ctr (s : State) : (cancelDisable s).ctr = s.ctr := rfl
@[simp] theorem cancelDisable_log (s : State) : (cancelDisable s).log = s.log := rfl
@[simp] theorem cancelDisable_chip (s : State) : (cancelDisable s).chip = s.chip := rfl
@[simp] theorem cancelDisable_env (s : State) : (cancelDisable s).env = s.env := rfl

/-! ### `startService` -/

@[simp] theorem startService_board (s : State) : (startService s).board = s.board := rfl
@[simp] theorem startService_attached (s : State) : (startService s).attached = s.attached := rfl
@[simp] theorem startService_line (s : State) : (startService s).line = s.line := rfl
@[simp] theorem startService_fmt (s : State) : (startService s).fmt = s.fmt := rfl
@[simp] theorem startService_stg (s : State) : (startService s).stg = s.stg := rfl
@[simp] theorem startService_hold (s : State) : (startService s).hold = s.hold := rfl
@[simp] theorem startService_cts (s : State) : (startService s).cts = s.cts := rfl
@[simp] theorem startService_txe (s : State) : (startService s).txe = s.txe := rfl
@[simp] theorem startService_rxa (s : State) : (startService s).rxa = s.rxa := rfl
@[simp] theorem startService_de (s : State) : (startService s).de = s.de := rfl
@[simp] theorem startService_mem (s : State) : (startService s).mem = s.mem := rfl
@[simp] theorem startService_head (s : State) : (startService s).head = s.head := rfl
@[simp] theorem startService_tail (s : State) : (startService s).tail = if s.pend.fls then s.head else s.tail := rfl
@[simp] theorem startService_txstop (s : State) : (startService s).txstop = s.txstop := rfl
@[simp] theorem startService_tc (s : State) : (startService s).tc = s.tc := rfl
@[simp] theorem startService_dl (s : State) : (startService s).dl = s.dl := rfl
@[simp] theorem startService_os (s : State) : (startService s).os = s.os := rfl
@[simp] theorem startService_outcome (s : State) : (startService s).outcome = s.outcome := rfl
@[simp] theorem startService_pend (s : State) : (startService s).pend = { s.pend with txs := false, txn := false, rxp := false, fls := false } := rfl
@[simp] theorem startService_wake (s : State) : (startService s).wake = s.wake := rfl
@[simp] theorem startService_phase (s : State) : (startService s).phase = .drain 0 := rfl
@[simp] theorem startService_armed (s : State) : (startService s).armed = s.armed := rfl
@[simp] theorem startService_fail (s : State) : (startService s).fail = s.fail := rfl
@[simp] theorem startService_now (s : State) : (startService s).now = s.now := rfl
@[simp] theorem startService_npoll (s : State) : (startService s).npoll = s.npoll := rfl
@[simp] theorem startService_rxbuf (s : State) : (startService s).rxbuf = s.rxbuf := rfl
@[simp] theorem startService_ctr (s : State) : (startService s).ctr = s.ctr := rfl
@[simp] theorem startService_log (s : State) : (startService s).log = s.log := rfl
@[simp] theorem startService_chip (s : State) : (startService s).chip = s.chip := rfl
@[simp] theorem startService_env (s : State) : (startService s).env = s.env := rfl

/-! ### `chosen` -/

@[simp] theorem chosen_board (s : State) : (State.chosen s).board = s.board := rfl
@[simp] theorem chosen_attached (s : State) : (State.chosen s).attached = s.attached := rfl
@[simp] theorem chosen_line (s : State) : (State.chosen s).line = s.line := rfl
@[simp] theorem chosen_fmt (s : State) : (State.chosen s).fmt = s.fmt := rfl
@[simp] theorem chosen_stg (s : State) : (State.chosen s).stg = s.stg := rfl
@[simp] theorem chosen_hold (s : State) : (State.chosen s).hold = s.hold := rfl
@[simp] theorem chosen_cts (s : State) : (State.chosen s).cts = s.cts := rfl
@[simp] theorem chosen_txe (s : State) : (State.chosen s).txe = s.txe := rfl
@[simp] theorem chosen_rxa (s : State) : (State.chosen s).rxa = s.rxa := rfl
@[simp] theorem chosen_de (s : State) : (State.chosen s).de = s.de := rfl
@[simp] theorem chosen_mem (s : State) : (State.chosen s).mem = s.mem := rfl
@[simp] theorem chosen_head (s : State) : (State.chosen s).head = s.head := rfl
@[simp] theorem chosen_tail (s : State) : (State.chosen s).tail = s.tail := rfl
@[simp] theorem chosen_txstop (s : State) : (State.chosen s).txstop = s.txstop := rfl
@[simp] theorem chosen_tc (s : State) : (State.chosen s).tc = s.tc := rfl
@[simp] theorem chosen_dl (s : State) : (State.chosen s).dl = s.dl := rfl
@[simp] theorem chosen_os (s : State) : (State.chosen s).os = s.os := rfl
@[simp] theorem chosen_outcome (s : State) : (State.chosen s).outcome = s.outcome := rfl
@[simp] theorem chosen_pend (s : State) : (State.chosen s).pend = s.pend := rfl
@[simp] theorem chosen_wake (s : State) : (State.chosen s).wake = s.wake := rfl
@[simp] theorem chosen_phase (s : State) : (State.chosen s).phase = s.phase := rfl
@[simp] theorem chosen_armed (s : State) : (State.chosen s).armed = s.armed := rfl
@[simp] theorem chosen_fail (s : State) : (State.chosen s).fail = s.fail := rfl
@[simp] theorem chosen_now (s : State) : (State.chosen s).now = s.now := rfl
@[simp] theorem chosen_npoll (s : State) : (State.chosen s).npoll = s.npoll := rfl
@[simp] theorem chosen_rxbuf (s : State) : (State.chosen s).rxbuf = s.rxbuf := rfl
@[simp] theorem chosen_ctr (s : State) : (State.chosen s).ctr = s.ctr := rfl
@[simp] theorem chosen_log (s : State) : (State.chosen s).log = s.log := rfl
@[simp] theorem chosen_chip (s : State) : (State.chosen s).chip = s.chip := rfl
@[simp] theorem chosen_env (s : State) : (State.chosen s).env = afterMove s.env := rfl

end Sys2Proof.Machine
end

