-- ==== Sys2Proof/Laws/Memory.lean ====
section
/-!
SUPPORT. The queue's memory: a read after a write, what a write leaves alone, and that writing keeps the canonical form.
-/

namespace Sys2Proof.Machine

@[simp] theorem Memory.read_write_same (m : Memory) (a : Nat) (v : Byte) : (Memory.write m a v).read a = some v := by
  induction m with
  | nil => simp [Memory.write, Memory.read]
  | cons c m ih =>
    obtain ⟨k, b⟩ := c
    by_cases h1 : a < k
    · simp [Memory.write, h1, Memory.read]
    · by_cases h2 : a = k
      · simp [Memory.write, h2, Memory.read]
      · simp [Memory.write, h1, h2, Memory.read, Ne.symm h2, ih]

theorem Memory.read_write_other (m : Memory) (a x : Nat) (v : Byte) (h : x ≠ a) :
    (Memory.write m a v).read x = m.read x := by
  induction m with
  | nil => simp [Memory.write, Memory.read, Ne.symm h]
  | cons c m ih =>
    obtain ⟨k, b⟩ := c
    by_cases h1 : a < k
    · simp [Memory.write, h1, Memory.read, Ne.symm h]
    · by_cases h2 : a = k
      · subst h2
        simp [Memory.write, Memory.read, Ne.symm h]
      · simp only [Memory.write, h1, h2, if_false, Memory.read, ih]

/-- The first listed slot is above `a`, or nothing is listed. -/
def Memory.above (a : Nat) : Memory → Prop
  | [] => True
  | (k, _) :: _ => a < k

theorem Memory.wf_cons (cap k : Nat) (b : Byte) (m : Memory) :
    Memory.wf cap ((k, b) :: m) = true ↔ k < cap ∧ Memory.above k m ∧ m.wf cap = true := by
  cases m with
  | nil => simp [Memory.wf, Memory.above]
  | cons c m => obtain ⟨k', b'⟩ := c; simp [Memory.wf, Memory.above, and_assoc]

theorem Memory.above_write (a x : Nat) (v : Byte) (m : Memory) (hx : x < a) (h : Memory.above x m) :
    Memory.above x (m.write a v) := by
  cases m with
  | nil => simpa [Memory.write, Memory.above] using hx
  | cons c m =>
    obtain ⟨k, b⟩ := c
    simp only [Memory.above] at h
    by_cases h1 : a < k
    · simpa [Memory.write, h1, Memory.above] using hx
    · by_cases h2 : a = k
      · simpa [Memory.write, h2, Memory.above] using h
      · simpa [Memory.write, h1, h2, Memory.above] using h

/-- A write to a slot of the queue keeps the canonical form. -/
theorem Memory.wf_write (cap : Nat) (m : Memory) (a : Nat) (v : Byte) (ha : a < cap) (h : m.wf cap = true) :
    (m.write a v).wf cap = true := by
  induction m with
  | nil => simp [Memory.write, Memory.wf, ha]
  | cons c m ih =>
    obtain ⟨k, b⟩ := c
    have hc := (Memory.wf_cons cap k b m).1 h
    by_cases h1 : a < k
    · simp only [Memory.write, h1, if_true]
      exact (Memory.wf_cons cap a v _).2 ⟨ha, h1, h⟩
    · by_cases h2 : a = k
      · subst h2
        simp only [Memory.write, lt_irrefl, if_false, if_true]
        exact (Memory.wf_cons cap a v m).2 ⟨ha, hc.2.1, hc.2.2⟩
      · simp only [Memory.write, h1, h2, if_false]
        exact (Memory.wf_cons cap k b _).2 ⟨hc.1, Memory.above_write a k v m (by omega) hc.2.1, ih hc.2.2⟩

/-- Writing a run of bytes keeps the canonical form. -/
theorem writeSlots_wf (cap : Nat) (hc : 0 < cap) (l : List Byte) (m : Memory) (a : Nat) (h : m.wf cap = true) :
    (writeSlots cap m a l).wf cap = true := by
  induction l generalizing m a with
  | nil => exact h
  | cons b l ih =>
    exact ih _ _ (Memory.wf_write cap m _ b (Nat.mod_lt _ hc) h)

/-- A slot outside the run keeps what it held. -/
theorem writeSlots_read_other (cap : Nat) (l : List Byte) (m : Memory) (a x : Nat)
    (h : ∀ i, i < l.length → (a + i) % cap ≠ x) : (writeSlots cap m a l).read x = m.read x := by
  induction l generalizing m a with
  | nil => rfl
  | cons b l ih =>
    have h0 : a % cap ≠ x := h 0 (by simp)
    rw [writeSlots, ih _ _ fun i hi => by
      have := h (i + 1) (by simpa using hi)
      rwa [show a + (i + 1) = a + 1 + i by omega] at this]
    exact Memory.read_write_other m _ x b (Ne.symm h0)

/-- A run no longer than the queue writes its i-th byte to slot `(a + i) mod cap`. -/
theorem writeSlots_read (cap : Nat) (l : List Byte) (m : Memory) (a i : Nat) (hl : l.length ≤ cap) (hi : i < l.length) :
    (writeSlots cap m a l).read ((a + i) % cap) = l[i]? := by
  induction l generalizing m a i with
  | nil => simp at hi
  | cons b l ih =>
    simp only [List.length_cons] at hl hi
    cases i with
    | zero =>
      rw [writeSlots, writeSlots_read_other]
      · simp
      · intro j hj
        have hne := Nat.ModEq.add_left_cancel' (n := cap) a (a := 1 + j) (b := 0)
        intro e
        have h0 := hne (by simpa [Nat.ModEq, Nat.add_assoc] using e)
        simp only [Nat.ModEq, Nat.zero_mod, Nat.mod_eq_of_lt (show 1 + j < cap by omega)] at h0
        omega
    | succ i =>
      rw [writeSlots, show a + (i + 1) = a + 1 + i by omega, ih _ _ i (by omega) (by omega)]
      simp

@[simp] theorem reset_mem_wf (b : Config.Board) (t : Nat) (e : Env) : (State.resetWith b t e).mem.wf b.xmitCap = true := rfl

end Sys2Proof.Machine
end

