-- ==== Sys2Proof/Laws/Ops.lean ====
section
/-!
SUPPORT. For each shared operation, once, everything it can do: the environment's next choices, an exchange and its two
outcomes, delivery to the sink, collecting a character, arming the one-shot, and the `End` step.
-/

namespace Sys2Proof.Machine

/-! ### The environment -/

/-- An answer consumed: the trace grows by exactly that exchange, and the agenda, the sink and the replies are left. -/
theorem afterAnswer_bus (w : Word) (e : Env) :
    (afterAnswer w e).bus = e.bus ++ [{ out := w, answer := nextAnswer e }] := by
  unfold afterAnswer nextAnswer; split <;> rfl

@[simp] theorem afterAnswer_agenda (w : Word) (e : Env) : (afterAnswer w e).agenda = e.agenda := by
  unfold afterAnswer; split <;> rfl

@[simp] theorem afterAnswer_accepts (w : Word) (e : Env) : (afterAnswer w e).accepts = e.accepts := by
  unfold afterAnswer; split <;> rfl

@[simp] theorem afterAnswer_sink (w : Word) (e : Env) : (afterAnswer w e).sink = e.sink := by
  unfold afterAnswer; split <;> rfl

@[simp] theorem afterAnswer_replies (w : Word) (e : Env) : (afterAnswer w e).replies = e.replies := by
  unfold afterAnswer; split <;> rfl

@[simp] theorem afterAccept_bus (l : List RxChar) (e : Env) : (afterAccept l e).bus = e.bus := by
  unfold afterAccept; split <;> rfl

@[simp] theorem afterAccept_agenda (l : List RxChar) (e : Env) : (afterAccept l e).agenda = e.agenda := by
  unfold afterAccept; split <;> rfl

@[simp] theorem afterAccept_answers (l : List RxChar) (e : Env) : (afterAccept l e).answers = e.answers := by
  unfold afterAccept; split <;> rfl

@[simp] theorem afterAccept_replies (l : List RxChar) (e : Env) : (afterAccept l e).replies = e.replies := by
  unfold afterAccept; split <;> rfl

@[simp] theorem afterAccept_sink (l : List RxChar) (e : Env) : (afterAccept l e).sink = e.sink ++ l := by
  unfold afterAccept; split <;> rfl

@[simp] theorem afterAccept_accepts (l : List RxChar) (e : Env) : (afterAccept l e).accepts = e.accepts.drop 1 := by
  unfold afterAccept; cases e.accepts <;> simp

@[simp] theorem afterAccept_draws (l : List RxChar) (e : Env) :
    (afterAccept l e).draws = e.draws + (1 - e.accepts.length) := by
  unfold afterAccept; cases e.accepts <;> simp

/-- The next answer of the sink is the first of those counted from here on (R151). -/
theorem nextAccept_eq (e : Env) : nextAccept e = sinkAnswer e 0 := by
  unfold nextAccept sinkAnswer; cases e.accepts <;> simp

/-- After one call of the sink the answers left are the later ones (R151). -/
theorem sinkAnswer_afterAccept (l : List RxChar) (e : Env) (i : Nat) :
    sinkAnswer (afterAccept l e) i = sinkAnswer e (i + 1) := by
  unfold sinkAnswer afterAccept
  cases h : e.accepts with
  | nil => simp only [List.getElem?_nil, List.length_nil]; congr 1; omega
  | cons a as => simp only [List.getElem?_cons_succ, List.length_cons]; rw [Nat.add_sub_add_right]

@[simp] theorem afterMove_bus (e : Env) : (afterMove e).bus = e.bus := by unfold afterMove; split <;> rfl

@[simp] theorem afterMove_sink (e : Env) : (afterMove e).sink = e.sink := by unfold afterMove; split <;> rfl

@[simp] theorem afterMove_answers (e : Env) : (afterMove e).answers = e.answers := by unfold afterMove; split <;> rfl

@[simp] theorem afterMove_replies (e : Env) : (afterMove e).replies = e.replies := by unfold afterMove; split <;> rfl

/-! ### The exchange -/

theorem exchange_err (w : Word) (onErr : State → State) (onOk : Word → State → State) (s : State)
    (h : nextAnswer s.env = .err) : exchange w onErr onOk s = onErr (exchanged w s) := by
  unfold exchange; rw [h]

theorem exchange_ok (w : Word) (onErr : State → State) (onOk : Word → State → State) (s : State) (r : Word)
    (h : nextAnswer s.env = .ok r) : exchange w onErr onOk s = onOk r (exchanged w s) := by
  unfold exchange; rw [h]

/-- An exchange either fails or is answered, and nothing else happens. -/
theorem exchange_cases (w : Word) (onErr : State → State) (onOk : Word → State → State) (s : State) :
    (nextAnswer s.env = .err ∧ exchange w onErr onOk s = onErr (exchanged w s)) ∨
    ∃ r, nextAnswer s.env = .ok r ∧ exchange w onErr onOk s = onOk r (exchanged w s) := by
  cases h : nextAnswer s.env with
  | err => exact .inl ⟨rfl, exchange_err w onErr onOk s h⟩
  | ok r => exact .inr ⟨r, rfl, exchange_ok w onErr onOk s r h⟩

/-- What a failed exchange leaves: the failure bookkeeping and nothing else (R140). -/
theorem failExchange_eq (w : Word) (again : PendingFlags → PendingFlags) (s : State) :
    failExchange w again s =
      { s with log := s.log ++ [{ event := .transportError w s.phase, time := s.now }]
               ctr := { s.ctr with nxerr := s.ctr.nxerr + 1 }
               fail := true, pend := again s.pend, phase := .endPass } := rfl

/-! ### The receive path -/

/-- The offers of one delivery: the sink takes some leading characters, the rest is left, and nothing but the sink's script and
record changes in the environment (R151). -/
theorem offer_spec (n : Nat) (l : List RxChar) (e : Env) :
    ∃ k, k ≤ l.length ∧ (offer n l e).1 = l.drop k ∧ (offer n l e).2.sink = e.sink ++ l.take k ∧
      (offer n l e).2.bus = e.bus ∧ (offer n l e).2.agenda = e.agenda ∧ (offer n l e).2.answers = e.answers ∧
      (offer n l e).2.replies = e.replies := by
  induction n generalizing l e with
  | zero => exact ⟨0, by simp [offer]⟩
  | succ n ih =>
    cases l with
    | nil => exact ⟨0, by simp [offer]⟩
    | cons c l =>
      obtain ⟨k, hk, h1, h2, h3, h4, h5, h6⟩ :=
        ih ((c :: l).drop (min (nextAccept e) (c :: l).length))
          (afterAccept ((c :: l).take (min (nextAccept e) (c :: l).length)) e)
      refine ⟨min (nextAccept e) (c :: l).length + k, ?_, ?_, ?_, ?_, ?_, ?_, ?_⟩
      · rw [List.length_drop] at hk; omega
      · rw [offer, h1, List.drop_drop]
      · rw [offer, h2, afterAccept_sink, List.append_assoc, ← List.take_add]
      · rw [offer, h3, afterAccept_bus]
      · rw [offer, h4, afterAccept_agenda]
      · rw [offer, h5, afterAccept_answers]
      · rw [offer, h6, afterAccept_replies]

/-- A delivery empties the receive buffer: its first `k` characters reach the sink, and the others are counted and logged as
dropped (R151). Of the rest of the state only the sink's script moves. -/
theorem deliver_spec (s : State) :
    ∃ k e, k ≤ s.rxbuf.length ∧ e.sink = s.env.sink ++ s.rxbuf.take k ∧ e.bus = s.env.bus ∧ e.agenda = s.env.agenda ∧
      e.answers = s.env.answers ∧ e.replies = s.env.replies ∧
      deliver s =
        { s with env := e, rxbuf := []
                 ctr := { s.ctr with ndrop := s.ctr.ndrop + (s.rxbuf.length - k) }
                 log := if k = s.rxbuf.length then s.log
                        else s.log ++ [{ event := .rxDropped (s.rxbuf.length - k), time := s.now }] } := by
  obtain ⟨k, hk, h1, h2, h3, h4, h5, h6⟩ := offer_spec s.board.sinkAttempts s.rxbuf s.env
  refine ⟨k, (offer s.board.sinkAttempts s.rxbuf s.env).2, hk, h2, h3, h4, h5, h6, ?_⟩
  by_cases hlen : k = s.rxbuf.length
  · subst hlen; simp [deliver, h1]
  · have hne : s.rxbuf.drop k ≠ [] := fun h0 => by
      have := congrArg List.length h0
      rw [List.length_drop, List.length_nil] at this
      omega
    simp only [deliver, h1, hne, if_false, hlen, raise, List.length_drop]

/-- Collecting a character: the buffer grows by it, its counter counts it, and a bad one is logged (R143, R144). -/
theorem collect_eq (r : Word) (s : State) :
    collect r s =
      { s with rxbuf := s.rxbuf ++ [classify s.board.feReport s.fmt r]
               ctr := s.ctr.received (classify s.board.feReport s.fmt r).flag
               log := s.log ++ (rxEvents (classify s.board.feReport s.fmt r)).map
                 fun ev => { event := ev, time := s.now } } := by
  unfold collect countRx rxEvents Counters.received
  cases h : (classify s.board.feReport s.fmt r).flag <;> simp [h, raise]

/-- No character in the response: nothing is captured (R143). -/
theorem capture_quiet (r : Word) (d : Bool) (s : State) (h : respR r = false) : capture r d s = s := by
  simp [capture, h]

/-- In a drain a character is only collected (R143). -/
theorem capture_drain (r : Word) (s : State) (h : respR r = true) : capture r true s = collect r s := by
  simp [capture, h]

/-- Outside a drain a character is delivered at once, and another drain is asked for (R143). -/
theorem capture_direct (r : Word) (s : State) (h : respR r = true) :
    capture r false s = deliver (setPend (fun p => { p with rxp := true }) (collect r s)) := by
  simp [capture, h]

/-! ### The outgoing queue -/

/-- Advancing a position gives a slot (R31). -/
theorem advance_lt (n i : Nat) (s : State) (h : 0 < s.board.xmitCap) : advance n i s < s.board.xmitCap := Nat.mod_lt _ h

/-- Fewer bytes are queued than there are slots (R31). -/
theorem qCount_lt (s : State) (h : 0 < s.board.xmitCap) : qCount s < s.board.xmitCap := Nat.mod_lt _ h

/-- With both positions in range, nothing is queued exactly when they agree (R31). -/
theorem qCount_eq_zero (s : State) (hh : s.head < s.board.xmitCap) (ht : s.tail < s.board.xmitCap) :
    qCount s = 0 ↔ qEmpty s = true := by
  unfold qCount qEmpty
  rw [decide_eq_true_eq]
  constructor
  · intro h
    by_cases hle : s.tail ≤ s.head
    · rw [show s.head + s.board.xmitCap - s.tail = (s.head - s.tail) + s.board.xmitCap by omega, Nat.add_mod_right,
        Nat.mod_eq_of_lt (by omega)] at h
      omega
    · rw [Nat.mod_eq_of_lt (by omega)] at h
      omega
  · intro h
    rw [h, Nat.add_sub_cancel_left, Nat.mod_self]

/-! ### The end of a pass -/

/-- Arming sets the one-shot to the deadline, or changes nothing (R206). -/
theorem armCheck_cases (s : State) :
    (armCheck s = { s with os := some s.dl } ∧
      qEmpty s = true ∧ s.de ≠ .off ∧ s.os = none ∧ s.pend.dis = false ∧ s.line = .active) ∨
    (armCheck s = s ∧
      ¬(qEmpty s = true ∧ s.de ≠ .off ∧ s.os = none ∧ s.pend.dis = false ∧ s.line = .active)) := by
  unfold armCheck
  split
  · next h => exact .inl ⟨rfl, h⟩
  · next h => exact .inr ⟨rfl, h⟩

/-- The `End` step goes to `Top` or parks, after delivering and arming (R244). -/
theorem endStep_cases (s : State) :
    (loops (armCheck (deliver s)) = true ∧ endStep s = goto .top (armCheck (deliver s))) ∨
    (loops (armCheck (deliver s)) = false ∧ endStep s = goto .parked (armCheck (deliver s))) := by
  unfold endStep
  cases h : loops (armCheck (deliver s)) <;> simp [h]

end Sys2Proof.Machine
end

