-- ==== Sys2Proof/Laws/Frames.lean ====
section
/-!
SUPPORT. The fields that delivering, collecting and arming leave alone.
-/

namespace Sys2Proof.Machine

/-- A delivery touches the receive buffer, one counter, the log and the sink's side (R151). -/
theorem deliver_frame (s : State) :
    deliver s = { s with rxbuf := (deliver s).rxbuf, ctr := (deliver s).ctr, log := (deliver s).log, env := (deliver s).env } := by
  obtain ⟨k, e, -, -, -, -, -, -, h⟩ := deliver_spec s
  rw [h]

@[simp] theorem deliver_board (s : State) : (deliver s).board = s.board := by rw [deliver_frame]
@[simp] theorem deliver_attached (s : State) : (deliver s).attached = s.attached := by rw [deliver_frame]
@[simp] theorem deliver_line (s : State) : (deliver s).line = s.line := by rw [deliver_frame]
@[simp] theorem deliver_fmt (s : State) : (deliver s).fmt = s.fmt := by rw [deliver_frame]
@[simp] theorem deliver_stg (s : State) : (deliver s).stg = s.stg := by rw [deliver_frame]
@[simp] theorem deliver_hold (s : State) : (deliver s).hold = s.hold := by rw [deliver_frame]
@[simp] theorem deliver_cts (s : State) : (deliver s).cts = s.cts := by rw [deliver_frame]
@[simp] theorem deliver_txe (s : State) : (deliver s).txe = s.txe := by rw [deliver_frame]
@[simp] theorem deliver_rxa (s : State) : (deliver s).rxa = s.rxa := by rw [deliver_frame]
@[simp] theorem deliver_de (s : State) : (deliver s).de = s.de := by rw [deliver_frame]
@[simp] theorem deliver_mem (s : State) : (deliver s).mem = s.mem := by rw [deliver_frame]
@[simp] theorem deliver_head (s : State) : (deliver s).head = s.head := by rw [deliver_frame]
@[simp] theorem deliver_tail (s : State) : (deliver s).tail = s.tail := by rw [deliver_frame]
@[simp] theorem deliver_txstop (s : State) : (deliver s).txstop = s.txstop := by rw [deliver_frame]
@[simp] theorem deliver_tc (s : State) : (deliver s).tc = s.tc := by rw [deliver_frame]
@[simp] theorem deliver_dl (s : State) : (deliver s).dl = s.dl := by rw [deliver_frame]
@[simp] theorem deliver_os (s : State) : (deliver s).os = s.os := by rw [deliver_frame]
@[simp] theorem deliver_outcome (s : State) : (deliver s).outcome = s.outcome := by rw [deliver_frame]
@[simp] theorem deliver_pend (s : State) : (deliver s).pend = s.pend := by rw [deliver_frame]
@[simp] theorem deliver_wake (s : State) : (deliver s).wake = s.wake := by rw [deliver_frame]
@[simp] theorem deliver_phase (s : State) : (deliver s).phase = s.phase := by rw [deliver_frame]
@[simp] theorem deliver_armed (s : State) : (deliver s).armed = s.armed := by rw [deliver_frame]
@[simp] theorem deliver_fail (s : State) : (deliver s).fail = s.fail := by rw [deliver_frame]
@[simp] theorem deliver_now (s : State) : (deliver s).now = s.now := by rw [deliver_frame]
@[simp] theorem deliver_npoll (s : State) : (deliver s).npoll = s.npoll := by rw [deliver_frame]
@[simp] theorem deliver_chip (s : State) : (deliver s).chip = s.chip := by rw [deliver_frame]

/-- Collecting touches the receive buffer, a counter and the log (R143). -/
theorem collect_frame (r : Word) (s : State) :
    collect r s = { s with rxbuf := (collect r s).rxbuf, ctr := (collect r s).ctr, log := (collect r s).log } := by
  rw [collect_eq]

@[simp] theorem collect_board (r : Word) (s : State) : (collect r s).board = s.board := by rw [collect_frame]
@[simp] theorem collect_attached (r : Word) (s : State) : (collect r s).attached = s.attached := by rw [collect_frame]
@[simp] theorem collect_line (r : Word) (s : State) : (collect r s).line = s.line := by rw [collect_frame]
@[simp] theorem collect_fmt (r : Word) (s : State) : (collect r s).fmt = s.fmt := by rw [collect_frame]
@[simp] theorem collect_stg (r : Word) (s : State) : (collect r s).stg = s.stg := by rw [collect_frame]
@[simp] theorem collect_hold (r : Word) (s : State) : (collect r s).hold = s.hold := by rw [collect_frame]
@[simp] theorem collect_cts (r : Word) (s : State) : (collect r s).cts = s.cts := by rw [collect_frame]
@[simp] theorem collect_txe (r : Word) (s : State) : (collect r s).txe = s.txe := by rw [collect_frame]
@[simp] theorem collect_rxa (r : Word) (s : State) : (collect r s).rxa = s.rxa := by rw [collect_frame]
@[simp] theorem collect_de (r : Word) (s : State) : (collect r s).de = s.de := by rw [collect_frame]
@[simp] theorem collect_mem (r : Word) (s : State) : (collect r s).mem = s.mem := by rw [collect_frame]
@[simp] theorem collect_head (r : Word) (s : State) : (collect r s).head = s.head := by rw [collect_frame]
@[simp] theorem collect_tail (r : Word) (s : State) : (collect r s).tail = s.tail := by rw [collect_frame]
@[simp] theorem collect_txstop (r : Word) (s : State) : (collect r s).txstop = s.txstop := by rw [collect_frame]
@[simp] theorem collect_tc (r : Word) (s : State) : (collect r s).tc = s.tc := by rw [collect_frame]
@[simp] theorem collect_dl (r : Word) (s : State) : (collect r s).dl = s.dl := by rw [collect_frame]
@[simp] theorem collect_os (r : Word) (s : State) : (collect r s).os = s.os := by rw [collect_frame]
@[simp] theorem collect_outcome (r : Word) (s : State) : (collect r s).outcome = s.outcome := by rw [collect_frame]
@[simp] theorem collect_pend (r : Word) (s : State) : (collect r s).pend = s.pend := by rw [collect_frame]
@[simp] theorem collect_wake (r : Word) (s : State) : (collect r s).wake = s.wake := by rw [collect_frame]
@[simp] theorem collect_phase (r : Word) (s : State) : (collect r s).phase = s.phase := by rw [collect_frame]
@[simp] theorem collect_armed (r : Word) (s : State) : (collect r s).armed = s.armed := by rw [collect_frame]
@[simp] theorem collect_fail (r : Word) (s : State) : (collect r s).fail = s.fail := by rw [collect_frame]
@[simp] theorem collect_now (r : Word) (s : State) : (collect r s).now = s.now := by rw [collect_frame]
@[simp] theorem collect_npoll (r : Word) (s : State) : (collect r s).npoll = s.npoll := by rw [collect_frame]
@[simp] theorem collect_chip (r : Word) (s : State) : (collect r s).chip = s.chip := by rw [collect_frame]
@[simp] theorem collect_env (r : Word) (s : State) : (collect r s).env = s.env := by rw [collect_frame]

/-- A captured response touches one flag and the receive path (R143). -/
theorem capture_frame (r : Word) (d : Bool) (s : State) :
    capture r d s = { s with pend := (capture r d s).pend, rxbuf := (capture r d s).rxbuf, ctr := (capture r d s).ctr, log := (capture r d s).log, env := (capture r d s).env } := by
  cases h : respR r with
  | false => rw [capture_quiet r d s h]
  | true =>
    cases d with
    | true => rw [capture_drain r s h, collect_eq]
    | false => rw [capture_direct r s h, deliver_frame, collect_eq]; rfl

@[simp] theorem capture_board (r : Word) (d : Bool) (s : State) : (capture r d s).board = s.board := by rw [capture_frame]
@[simp] theorem capture_attached (r : Word) (d : Bool) (s : State) : (capture r d s).attached = s.attached := by rw [capture_frame]
@[simp] theorem capture_line (r : Word) (d : Bool) (s : State) : (capture r d s).line = s.line := by rw [capture_frame]
@[simp] theorem capture_fmt (r : Word) (d : Bool) (s : State) : (capture r d s).fmt = s.fmt := by rw [capture_frame]
@[simp] theorem capture_stg (r : Word) (d : Bool) (s : State) : (capture r d s).stg = s.stg := by rw [capture_frame]
@[simp] theorem capture_hold (r : Word) (d : Bool) (s : State) : (capture r d s).hold = s.hold := by rw [capture_frame]
@[simp] theorem capture_cts (r : Word) (d : Bool) (s : State) : (capture r d s).cts = s.cts := by rw [capture_frame]
@[simp] theorem capture_txe (r : Word) (d : Bool) (s : State) : (capture r d s).txe = s.txe := by rw [capture_frame]
@[simp] theorem capture_rxa (r : Word) (d : Bool) (s : State) : (capture r d s).rxa = s.rxa := by rw [capture_frame]
@[simp] theorem capture_de (r : Word) (d : Bool) (s : State) : (capture r d s).de = s.de := by rw [capture_frame]
@[simp] theorem capture_mem (r : Word) (d : Bool) (s : State) : (capture r d s).mem = s.mem := by rw [capture_frame]
@[simp] theorem capture_head (r : Word) (d : Bool) (s : State) : (capture r d s).head = s.head := by rw [capture_frame]
@[simp] theorem capture_tail (r : Word) (d : Bool) (s : State) : (capture r d s).tail = s.tail := by rw [capture_frame]
@[simp] theorem capture_txstop (r : Word) (d : Bool) (s : State) : (capture r d s).txstop = s.txstop := by rw [capture_frame]
@[simp] theorem capture_tc (r : Word) (d : Bool) (s : State) : (capture r d s).tc = s.tc := by rw [capture_frame]
@[simp] theorem capture_dl (r : Word) (d : Bool) (s : State) : (capture r d s).dl = s.dl := by rw [capture_frame]
@[simp] theorem capture_os (r : Word) (d : Bool) (s : State) : (capture r d s).os = s.os := by rw [capture_frame]
@[simp] theorem capture_outcome (r : Word) (d : Bool) (s : State) : (capture r d s).outcome = s.outcome := by rw [capture_frame]
@[simp] theorem capture_wake (r : Word) (d : Bool) (s : State) : (capture r d s).wake = s.wake := by rw [capture_frame]
@[simp] theorem capture_phase (r : Word) (d : Bool) (s : State) : (capture r d s).phase = s.phase := by rw [capture_frame]
@[simp] theorem capture_armed (r : Word) (d : Bool) (s : State) : (capture r d s).armed = s.armed := by rw [capture_frame]
@[simp] theorem capture_fail (r : Word) (d : Bool) (s : State) : (capture r d s).fail = s.fail := by rw [capture_frame]
@[simp] theorem capture_now (r : Word) (d : Bool) (s : State) : (capture r d s).now = s.now := by rw [capture_frame]
@[simp] theorem capture_npoll (r : Word) (d : Bool) (s : State) : (capture r d s).npoll = s.npoll := by rw [capture_frame]
@[simp] theorem capture_chip (r : Word) (d : Bool) (s : State) : (capture r d s).chip = s.chip := by rw [capture_frame]

/-- Arming touches the one-shot alone (R206). -/
theorem armCheck_frame (s : State) :
    armCheck s = { s with os := (armCheck s).os } := by
  rcases armCheck_cases s with ⟨h, -⟩ | ⟨h, -⟩ <;> rw [h]

@[simp] theorem armCheck_board (s : State) : (armCheck s).board = s.board := by rw [armCheck_frame]
@[simp] theorem armCheck_attached (s : State) : (armCheck s).attached = s.attached := by rw [armCheck_frame]
@[simp] theorem armCheck_line (s : State) : (armCheck s).line = s.line := by rw [armCheck_frame]
@[simp] theorem armCheck_fmt (s : State) : (armCheck s).fmt = s.fmt := by rw [armCheck_frame]
@[simp] theorem armCheck_stg (s : State) : (armCheck s).stg = s.stg := by rw [armCheck_frame]
@[simp] theorem armCheck_hold (s : State) : (armCheck s).hold = s.hold := by rw [armCheck_frame]
@[simp] theorem armCheck_cts (s : State) : (armCheck s).cts = s.cts := by rw [armCheck_frame]
@[simp] theorem armCheck_txe (s : State) : (armCheck s).txe = s.txe := by rw [armCheck_frame]
@[simp] theorem armCheck_rxa (s : State) : (armCheck s).rxa = s.rxa := by rw [armCheck_frame]
@[simp] theorem armCheck_de (s : State) : (armCheck s).de = s.de := by rw [armCheck_frame]
@[simp] theorem armCheck_mem (s : State) : (armCheck s).mem = s.mem := by rw [armCheck_frame]
@[simp] theorem armCheck_head (s : State) : (armCheck s).head = s.head := by rw [armCheck_frame]
@[simp] theorem armCheck_tail (s : State) : (armCheck s).tail = s.tail := by rw [armCheck_frame]
@[simp] theorem armCheck_txstop (s : State) : (armCheck s).txstop = s.txstop := by rw [armCheck_frame]
@[simp] theorem armCheck_tc (s : State) : (armCheck s).tc = s.tc := by rw [armCheck_frame]
@[simp] theorem armCheck_dl (s : State) : (armCheck s).dl = s.dl := by rw [armCheck_frame]
@[simp] theorem armCheck_outcome (s : State) : (armCheck s).outcome = s.outcome := by rw [armCheck_frame]
@[simp] theorem armCheck_pend (s : State) : (armCheck s).pend = s.pend := by rw [armCheck_frame]
@[simp] theorem armCheck_wake (s : State) : (armCheck s).wake = s.wake := by rw [armCheck_frame]
@[simp] theorem armCheck_phase (s : State) : (armCheck s).phase = s.phase := by rw [armCheck_frame]
@[simp] theorem armCheck_armed (s : State) : (armCheck s).armed = s.armed := by rw [armCheck_frame]
@[simp] theorem armCheck_fail (s : State) : (armCheck s).fail = s.fail := by rw [armCheck_frame]
@[simp] theorem armCheck_now (s : State) : (armCheck s).now = s.now := by rw [armCheck_frame]
@[simp] theorem armCheck_npoll (s : State) : (armCheck s).npoll = s.npoll := by rw [armCheck_frame]
@[simp] theorem armCheck_rxbuf (s : State) : (armCheck s).rxbuf = s.rxbuf := by rw [armCheck_frame]
@[simp] theorem armCheck_ctr (s : State) : (armCheck s).ctr = s.ctr := by rw [armCheck_frame]
@[simp] theorem armCheck_log (s : State) : (armCheck s).log = s.log := by rw [armCheck_frame]
@[simp] theorem armCheck_chip (s : State) : (armCheck s).chip = s.chip := by rw [armCheck_frame]
@[simp] theorem armCheck_env (s : State) : (armCheck s).env = s.env := by rw [armCheck_frame]

@[simp] theorem deliver_rxbuf (s : State) : (deliver s).rxbuf = [] := by
  obtain ⟨k, e, -, -, -, -, -, -, h⟩ := deliver_spec s
  rw [h]

@[simp] theorem deliver_bus (s : State) : (deliver s).env.bus = s.env.bus := by
  obtain ⟨k, e, -, -, h1, -, -, -, h⟩ := deliver_spec s
  rw [h]; exact h1

@[simp] theorem deliver_agenda (s : State) : (deliver s).env.agenda = s.env.agenda := by
  obtain ⟨k, e, -, -, -, h1, -, -, h⟩ := deliver_spec s
  rw [h]; exact h1

@[simp] theorem deliver_answers (s : State) : (deliver s).env.answers = s.env.answers := by
  obtain ⟨k, e, -, -, -, -, h1, -, h⟩ := deliver_spec s
  rw [h]; exact h1

@[simp] theorem collect_rxbuf (r : Word) (s : State) :
    (collect r s).rxbuf = s.rxbuf ++ [classify s.board.feReport s.fmt r] := by rw [collect_eq]

@[simp] theorem capture_bus (r : Word) (d : Bool) (s : State) : (capture r d s).env.bus = s.env.bus := by
  cases h : respR r with
  | false => rw [capture_quiet r d s h]
  | true =>
    cases d with
    | true => rw [capture_drain r s h]; simp
    | false => rw [capture_direct r s h]; simp

@[simp] theorem capture_agenda (r : Word) (d : Bool) (s : State) : (capture r d s).env.agenda = s.env.agenda := by
  cases h : respR r with
  | false => rw [capture_quiet r d s h]
  | true =>
    cases d with
    | true => rw [capture_drain r s h]; simp
    | false => rw [capture_direct r s h]; simp

/-- A capture sets `receive-pending` when it takes a character outside a drain, and no other flag (R143). -/
theorem capture_pend (r : Word) (d : Bool) (s : State) :
    (capture r d s).pend = { s.pend with rxp := s.pend.rxp || (respR r && !d) } := by
  cases h : respR r with
  | false => rw [capture_quiet r d s h]; simp
  | true =>
    cases d with
    | true => rw [capture_drain r s h]; simp
    | false => rw [capture_direct r s h]; simp

/-- The receive buffer after a capture: one character longer in a drain, empty outside one (R143, R151). -/
theorem capture_rxbuf (r : Word) (d : Bool) (s : State) :
    (capture r d s).rxbuf =
      if respR r then (if d then s.rxbuf ++ [classify s.board.feReport s.fmt r] else []) else s.rxbuf := by
  cases h : respR r with
  | false => rw [capture_quiet r d s h]; simp
  | true =>
    cases d with
    | true => rw [capture_drain r s h]; simp
    | false => rw [capture_direct r s h]; simp

/-! ### The `End` step touches what delivering and arming touch, and the phase (R244) -/

@[simp] theorem endStep_board (s : State) : (endStep s).board = s.board := by
  rcases endStep_cases s with ⟨-, h⟩ | ⟨-, h⟩ <;> simp [h]

@[simp] theorem endStep_attached (s : State) : (endStep s).attached = s.attached := by
  rcases endStep_cases s with ⟨-, h⟩ | ⟨-, h⟩ <;> simp [h]

@[simp] theorem endStep_line (s : State) : (endStep s).line = s.line := by
  rcases endStep_cases s with ⟨-, h⟩ | ⟨-, h⟩ <;> simp [h]

@[simp] theorem endStep_fmt (s : State) : (endStep s).fmt = s.fmt := by
  rcases endStep_cases s with ⟨-, h⟩ | ⟨-, h⟩ <;> simp [h]

@[simp] theorem endStep_stg (s : State) : (endStep s).stg = s.stg := by
  rcases endStep_cases s with ⟨-, h⟩ | ⟨-, h⟩ <;> simp [h]

@[simp] theorem endStep_hold (s : State) : (endStep s).hold = s.hold := by
  rcases endStep_cases s with ⟨-, h⟩ | ⟨-, h⟩ <;> simp [h]

@[simp] theorem endStep_cts (s : State) : (endStep s).cts = s.cts := by
  rcases endStep_cases s with ⟨-, h⟩ | ⟨-, h⟩ <;> simp [h]

@[simp] theorem endStep_txe (s : State) : (endStep s).txe = s.txe := by
  rcases endStep_cases s with ⟨-, h⟩ | ⟨-, h⟩ <;> simp [h]

@[simp] theorem endStep_rxa (s : State) : (endStep s).rxa = s.rxa := by
  rcases endStep_cases s with ⟨-, h⟩ | ⟨-, h⟩ <;> simp [h]

@[simp] theorem endStep_de (s : State) : (endStep s).de = s.de := by
  rcases endStep_cases s with ⟨-, h⟩ | ⟨-, h⟩ <;> simp [h]

@[simp] theorem endStep_mem (s : State) : (endStep s).mem = s.mem := by
  rcases endStep_cases s with ⟨-, h⟩ | ⟨-, h⟩ <;> simp [h]

@[simp] theorem endStep_head (s : State) : (endStep s).head = s.head := by
  rcases endStep_cases s with ⟨-, h⟩ | ⟨-, h⟩ <;> simp [h]

@[simp] theorem endStep_tail (s : State) : (endStep s).tail = s.tail := by
  rcases endStep_cases s with ⟨-, h⟩ | ⟨-, h⟩ <;> simp [h]

@[simp] theorem endStep_txstop (s : State) : (endStep s).txstop = s.txstop := by
  rcases endStep_cases s with ⟨-, h⟩ | ⟨-, h⟩ <;> simp [h]

@[simp] theorem endStep_tc (s : State) : (endStep s).tc = s.tc := by
  rcases endStep_cases s with ⟨-, h⟩ | ⟨-, h⟩ <;> simp [h]

@[simp] theorem endStep_dl (s : State) : (endStep s).dl = s.dl := by
  rcases endStep_cases s with ⟨-, h⟩ | ⟨-, h⟩ <;> simp [h]

@[simp] theorem endStep_outcome (s : State) : (endStep s).outcome = s.outcome := by
  rcases endStep_cases s with ⟨-, h⟩ | ⟨-, h⟩ <;> simp [h]

@[simp] theorem endStep_pend (s : State) : (endStep s).pend = s.pend := by
  rcases endStep_cases s with ⟨-, h⟩ | ⟨-, h⟩ <;> simp [h]

@[simp] theorem endStep_wake (s : State) : (endStep s).wake = s.wake := by
  rcases endStep_cases s with ⟨-, h⟩ | ⟨-, h⟩ <;> simp [h]

@[simp] theorem endStep_armed (s : State) : (endStep s).armed = s.armed := by
  rcases endStep_cases s with ⟨-, h⟩ | ⟨-, h⟩ <;> simp [h]

@[simp] theorem endStep_fail (s : State) : (endStep s).fail = s.fail := by
  rcases endStep_cases s with ⟨-, h⟩ | ⟨-, h⟩ <;> simp [h]

@[simp] theorem endStep_now (s : State) : (endStep s).now = s.now := by
  rcases endStep_cases s with ⟨-, h⟩ | ⟨-, h⟩ <;> simp [h]

@[simp] theorem endStep_npoll (s : State) : (endStep s).npoll = s.npoll := by
  rcases endStep_cases s with ⟨-, h⟩ | ⟨-, h⟩ <;> simp [h]

@[simp] theorem endStep_chip (s : State) : (endStep s).chip = s.chip := by
  rcases endStep_cases s with ⟨-, h⟩ | ⟨-, h⟩ <;> simp [h]

@[simp] theorem endStep_rxbuf (s : State) : (endStep s).rxbuf = [] := by
  rcases endStep_cases s with ⟨-, h⟩ | ⟨-, h⟩ <;> simp [h]

@[simp] theorem endStep_bus (s : State) : (endStep s).env.bus = s.env.bus := by
  rcases endStep_cases s with ⟨-, h⟩ | ⟨-, h⟩ <;> simp [h]

@[simp] theorem endStep_agenda (s : State) : (endStep s).env.agenda = s.env.agenda := by
  rcases endStep_cases s with ⟨-, h⟩ | ⟨-, h⟩ <;> simp [h]

/-- The one-shot after `End`: armed to the deadline where R206 says so, else as it was. -/
theorem endStep_os (s : State) : (endStep s).os = (armCheck (deliver s)).os := by
  rcases endStep_cases s with ⟨-, h⟩ | ⟨-, h⟩ <;> simp [h]

/-- Whether work remains does not depend on the phase, the receive path or the one-shot (R244). -/
theorem loops_after_delivery (s : State) : loops (armCheck (deliver s)) = loops s := by
  simp [loops, qEmpty]

/-- The phase after `End` (R244). -/
theorem endStep_phase (s : State) : (endStep s).phase = if loops s then .top else .parked := by
  rcases endStep_cases s with ⟨h1, h⟩ | ⟨h1, h⟩ <;> rw [loops_after_delivery] at h1 <;> simp [h, h1]

end Sys2Proof.Machine
end

