-- ==== Sys2Proof/Laws/PerInstr.lean ====
section
/-!
SUPPORT. Laws stated once for each instruction of spec/opcode_table.json.

Family `TableRow`: the encoded word lies in its row of the table, under the row's mask and match.
-/

namespace Sys2Proof.Laws

/-- The row's mask (spec/opcode_table.json). -/
def rowMask : Instr → Word
  | .cfg _ _ _ _ => 0xFF80#16
  | .pwrdn _ _ _ _ => 0xFF80#16
  | .rd => 0xFFFF#16
  | .txd _ _ => 0xFE00#16
  | .deoff => 0xFFFF#16
  | .rc => 0xFFFF#16

/-- The row's match (spec/opcode_table.json). -/
def rowMatch : Instr → Word
  | .cfg _ _ _ _ => 0xC400#16
  | .pwrdn _ _ _ _ => 0xD400#16
  | .rd => 0x0000#16
  | .txd _ _ => 0x8200#16
  | .deoff => 0x8400#16
  | .rc => 0x4000#16

/-- The encoded word matches its row. -/
def TableRow.Statement (i : Instr) : Prop := encode i &&& rowMask i = rowMatch i

theorem TableRow.cfg (st pe l : Bool) (b : BitVec 4) : TableRow.Statement (.cfg st pe l b) := by
  unfold TableRow.Statement
  revert st pe l b
  decide

theorem TableRow.pwrdn (st pe l : Bool) (b : BitVec 4) : TableRow.Statement (.pwrdn st pe l b) := by
  unfold TableRow.Statement
  revert st pe l b
  decide

theorem TableRow.rd : TableRow.Statement .rd := rfl

theorem TableRow.txd (pt : Bool) (d : Byte) : TableRow.Statement (.txd pt d) := by
  unfold TableRow.Statement encode writeDataWord rowMask rowMatch
  apply BitVec.eq_of_getLsbD_eq
  intro i hi
  simp only [BitVec.getLsbD_and, BitVec.getLsbD_append]
  cases pt <;> interval_cases i <;> simp

theorem TableRow.deoff : TableRow.Statement .deoff := rfl

theorem TableRow.rc : TableRow.Statement .rc := rfl

end Sys2Proof.Laws
end

