-- ==== Sys2Proof/Laws/Worker.lean ====
section
/-!
SUPPORT. Inversion: what the worker can plan in each phase, and what one step of the machine can be. Each lemma names every
case with the guards under which it is taken.
-/

namespace Sys2Proof.Machine

/-- Every outcome of the disable evaluation (R208); `u` is the state with the flag taken. -/
theorem disableEvaluation_cases (s u : State) (hu : u = setPend (fun p => { p with dis := false }) s) :
    (disableEvaluation s = .silent (supersede { u with os := none }) ∧ (s.pend.txs = true ∨ qEmpty s = false)) ∨
    (disableEvaluation s = .silent (supersede u) ∧ s.pend.txs = false ∧ qEmpty s = true ∧ s.de = .off) ∨
    (disableEvaluation s = .silent (goto .top { u with os := some s.dl }) ∧
      s.pend.txs = false ∧ qEmpty s = true ∧ s.de ≠ .off ∧ s.now < s.dl) ∨
    (disableEvaluation s = .issue .deoff u ∧
      s.pend.txs = false ∧ qEmpty s = true ∧ s.de ≠ .off ∧ s.dl ≤ s.now) := by
  subst hu
  have hq : qEmpty (setPend (fun p => { p with dis := false }) s) = qEmpty s := rfl
  unfold disableEvaluation
  simp only [hq, setPend_pend, setPend_de, setPend_now, setPend_dl]
  cases h1 : s.pend.txs <;> cases h2 : qEmpty s <;> simp
  by_cases h3 : s.de = .off
  · simp [h3]
  · by_cases h4 : s.now < s.dl
    · simp [h3, h4]
    · simp [h3, h4]; omega

/-- Every item `Top` can choose (R234, R236), with the flags that choose it. -/
theorem topPlan_cases (s : State) :
    (topPlan s = .issue (.pwrdn s.fmt) s ∧ (s.pend.stop = true ∨ s.pend.susp = true)) ∨
    (s.pend.stop = false ∧ s.pend.susp = false ∧
      ((topPlan s = .silent (goto .endPass s) ∧ s.line = .suspended) ∨
       (topPlan s = disableEvaluation s ∧ s.line ≠ .suspended ∧ s.pend.dis = true) ∨
       (topPlan s = .issue (.cfg s.stg) s ∧ s.line ≠ .suspended ∧ s.pend.dis = false ∧ s.pend.cfg = true) ∨
       (topPlan s = .silent (startService s) ∧ s.line = .active ∧ s.pend.dis = false ∧ s.pend.cfg = false) ∨
       (topPlan s = .silent (goto .endPass s) ∧ s.line ≠ .suspended ∧ s.line ≠ .active ∧
         s.pend.dis = false ∧ s.pend.cfg = false))) := by
  unfold topPlan
  cases h1 : s.pend.stop <;> cases h2 : s.pend.susp <;> simp
  by_cases h3 : s.line = .suspended
  · simp [h3]
  · cases h4 : s.pend.dis <;> cases h5 : s.pend.cfg <;> simp [h3]
    by_cases h6 : s.line = .active <;> simp [h6]

/-- What a drain step plans (R241). -/
theorem drainPlan_cases (s : State) :
    (drainPlan s = .silent (goto .top (deliver s)) ∧ s.pend.preempts = true) ∨
    (drainPlan s = .issue .rd s ∧ s.pend.preempts = false) := by
  unfold drainPlan
  cases h : s.pend.preempts <;> simp

/-- What a transmit step plans (R243). -/
theorem txPlan_cases (s : State) :
    (txPlan s = .silent (goto .top s) ∧ s.pend.preempts = true) ∨
    (s.pend.preempts = false ∧
      ((txPlan s = .silent (goto .endPass s) ∧ (qEmpty s = true ∨ s.txstop = true ∨ s.txe = false)) ∨
       (qEmpty s = false ∧ s.txstop = false ∧ s.txe = true ∧
         ((∃ c, readTail s = some c ∧ txPlan s = .issue (.txd s.fmt c) s) ∨
          (readTail s = none ∧ txPlan s = .noByte))))) := by
  unfold txPlan
  cases h1 : s.pend.preempts <;> simp
  cases h2 : qEmpty s <;> cases h3 : s.txstop <;> cases h4 : s.txe <;> simp
  cases h5 : readTail s <;> simp

/-- The state a transaction is issued from: the one the step began with, but for the flag a disable evaluation takes. -/
theorem workerPlan_issue (s u : State) (k : Txn) (h : workerPlan s = .issue k u) :
    (u = s ∧ k ≠ .deoff) ∨
    (k = .deoff ∧ u = setPend (fun p => { p with dis := false }) s ∧
      s.phase = .top ∧ s.pend.stop = false ∧ s.pend.susp = false ∧ s.line ≠ .suspended ∧ s.pend.dis = true ∧
      s.pend.txs = false ∧ qEmpty s = true ∧ s.de ≠ .off ∧ s.dl ≤ s.now) := by
  unfold workerPlan at h
  cases hp : s.phase with
  | exited => simp [hp] at h
  | parked => cases hw : s.wake <;> simp [hp, hw] at h
  | endPass => simp [hp] at h
  | drain k' =>
    rcases drainPlan_cases s with ⟨e, -⟩ | ⟨e, -⟩ <;> simp [hp, e] at h
    exact .inl ⟨h.2.symm, by rw [← h.1]; simp⟩
  | tx =>
    rcases txPlan_cases s with ⟨e, -⟩ | ⟨-, ⟨e, -⟩ | ⟨-, -, -, ⟨c, -, e⟩ | ⟨-, e⟩⟩⟩ <;> simp [hp, e] at h
    exact .inl ⟨h.2.symm, by rw [← h.1]; simp⟩
  | top =>
    simp only [hp] at h
    rcases topPlan_cases s with ⟨e, -⟩ | ⟨h1, h2, ⟨e, -⟩ | ⟨e, h3, h4⟩ | ⟨e, -⟩ | ⟨e, -⟩ | ⟨e, -⟩⟩
    · simp [e] at h
      exact .inl ⟨h.2.symm, by rw [← h.1]; simp⟩
    · simp [e] at h
    · rw [e] at h
      rcases disableEvaluation_cases s _ rfl with ⟨e', -⟩ | ⟨e', -⟩ | ⟨e', -⟩ | ⟨e', h5, h6, h7, h8⟩ <;> simp [e'] at h
      exact .inr ⟨h.1.symm, h.2.symm, rfl, h1, h2, h3, h4, h5, h6, h7, h8⟩
    · simp [e] at h
      exact .inl ⟨h.2.symm, by rw [← h.1]; simp⟩
    · simp [e] at h
    · simp [e] at h

/-- What one step that goes on can be: the environment's move while no Port exists, a producer's step, a silent worker step, or one
transaction fetched and executed (R80, R230). -/
theorem step_cases (s t : State) (h : step s = .next t) :
    (s.attached = false ∧ t = detachedStep (nextMove s.env) s.chosen) ∨
    (s.attached = true ∧ nextMove s.env ≠ .worker ∧ t = producerStep (nextMove s.env) s.chosen) ∨
    (s.attached = true ∧ nextMove s.env = .worker ∧ workerPlan s.chosen = .silent t) ∨
    (s.attached = true ∧ nextMove s.env = .worker ∧
      ∃ k u i, workerPlan s.chosen = .issue k u ∧ decodeWord (enc k) = .ok i ∧ exec i u = .next t) := by
  unfold step at h
  cases ha : s.attached with
  | false =>
    simp only [ha, Bool.false_eq_true, if_false, Host.Outcome.next.injEq] at h
    exact .inl ⟨rfl, h.symm⟩
  | true =>
    simp only [ha, if_true] at h
    cases hm : nextMove s.env with
    | worker =>
      simp only [hm] at h
      cases hp : workerPlan s.chosen with
      | silent u =>
        simp only [hp, runPlan, Host.Outcome.next.injEq] at h
        exact .inr (.inr (.inl ⟨rfl, rfl, by rw [h]⟩))
      | noByte => simp [hp, runPlan] at h
      | issue k u =>
        simp only [hp, runPlan, fetched] at h
        cases hd : decodeWord (enc k) with
        | error e => simp [hd] at h
        | ok i =>
          simp only [hd] at h
          exact .inr (.inr (.inr ⟨rfl, rfl, k, u, i, rfl, hd, h⟩))
    | host r => simp only [hm, Host.Outcome.next.injEq] at h; exact .inr (.inl ⟨rfl, by simp, h.symm⟩)
    | irq => simp only [hm, Host.Outcome.next.injEq] at h; exact .inr (.inl ⟨rfl, by simp, h.symm⟩)
    | poll => simp only [hm, Host.Outcome.next.injEq] at h; exact .inr (.inl ⟨rfl, by simp, h.symm⟩)
    | fire => simp only [hm, Host.Outcome.next.injEq] at h; exact .inr (.inl ⟨rfl, by simp, h.symm⟩)
    | tick d => simp only [hm, Host.Outcome.next.injEq] at h; exact .inr (.inl ⟨rfl, by simp, h.symm⟩)

end Sys2Proof.Machine
end

