-- ==== Sys2Proof/Tests/Slice0.lean ====
section
/-!
SUPPORT. Tests. Expected values are those of spec/95_test_vectors.md (V-… and P…), or of the rule a comment names. The
`witness` theorems show, for each statement with hypotheses, a state and operands that meet all of them together.
-/

set_option maxRecDepth 8000

namespace Sys2Proof.Tests

open Sys2Proof Sys2Proof.Machine

/-! ### States -/

/-- An environment with these moves, answers and sink acceptances scripted. -/
def script (moves : List Move) (answers : List Answer) : Env :=
  { Env.initial with agenda := moves, answers := answers, accepts := [9, 9, 9, 9] }

/-- The bus answers `r` once. -/
def answering (r : Word) : Env := script [] [.ok r]

/-- The bus fails once. -/
def failing : Env := script [] [.err]

/-- The parameters of spec/95_test_vectors.md, with a poll timer of 1000 ns beside the interrupt. -/
def board : Config.Board := Config.chosenBoard .slow (.irqAndPoll 999)

/-- The same with the fast oscillator. -/
def fastBoard : Config.Board := { board with crystal := .fast }

/-- `DEFAULT_FORMAT` under the slow oscillator. -/
abbrev plain : Format := defaultFormat board

/-- The reset state with these parameters and the clock at 0. -/
def fresh : State := State.resetWith board 0 Env.initial

/-- `S_boot` of spec/95_test_vectors.md §3, without its trace. -/
def boot : State :=
  { fresh with line := .active, phase := .parked, armed := true, txe := true, npoll := 1000 }

/-- `boot` with one byte queued, about to transmit it. -/
def sending : State := { boot with phase := .tx, mem := [(0, 0x43#8)], head := 1 }

/-- `boot` with the enable on, its deadline passed, and the disable pending at `Top`. -/
def releasing : State := { boot with phase := .top, de := .on, dl := 100, now := 100, pend := { PendingFlags.none with dis := true } }

/-- 7 data bits, even parity, 1 stop bit at 19200 baud. -/
def sevenEven : Format := { baud := 19200, code := 9, wlen := .seven, par := .even, stop := .one }

/-- 8 data bits, odd parity, 2 stop bits at 300 baud. -/
def slowOdd : Format := { baud := 300, code := 15, wlen := .eight, par := .odd, stop := .two }

/-- The state after one step, or the state itself where the step stops. -/
def after (s : State) : State :=
  match step s with
  | .next t => t
  | _ => s

/-- The state after one instruction. -/
def ran (i : Instr) (s : State) : State :=
  match exec i s with
  | .next t => t
  | _ => s

/-- The invariant as a Bool. -/
def invHolds (s : State) : Bool :=
  boardOk s.board && decide (s.head < s.board.xmitCap) && decide (s.tail < s.board.xmitCap) &&
  s.mem.wf s.board.xmitCap && (List.range (qCount s)).all (fun i => (s.mem.read (slotOf s i)).isSome) &&
  decide (codeOf s.board s.fmt.baud = some s.fmt.code) &&
  decide (codeOf s.board s.stg.baud = some s.stg.code) &&
  decide (s.hold = holdNs s.fmt) && decide (s.os = none ∨ s.os = some s.dl) &&
  decide (s.pend.dis = true → s.dl ≤ s.now) &&
  decide (s.de = .on → qEmpty s = true → s.line = .active →
    s.phase ≠ .parked ∨ s.os ≠ none ∨ s.pend.dis = true ∨ s.wake = true) &&
  decide (s.phase = .exited ↔ s.line = .shutdown) &&
  decide (s.line = .starting →
    s.pend.cfg = true ∧ s.os = none ∧ s.pend.dis = false ∧ (s.phase = .parked ∨ s.phase = .top ∨ s.phase = .endPass)) &&
  decide (s.pend.susp = true ↔ s.line = .suspending) &&
  decide (s.armed = true ↔ s.line = .starting ∨ s.line = .active ∨ s.line = .suspending) &&
  decide (s.pend.stop = true → s.wake = true ∨ s.phase = .top) &&
  (match s.phase with
    | .drain k => decide (s.rxbuf.length = k ∧ k < s.board.rxDrainMax)
    | .endPass => decide (s.rxbuf.length < s.board.rxDrainMax)
    | _ => decide (s.rxbuf = [])) &&
  decide (s.line = .shutdown → s.pend = PendingFlags.none ∧ s.wake = false ∧ s.os = none ∧ s.head = s.tail) &&
  decide (s.line = .suspended →
    s.os = none ∧ s.pend.dis = false ∧ (s.phase = .parked ∨ s.phase = .top ∨ s.phase = .endPass)) &&
  decide (s.attached = false → s.line = .shutdown)

theorem inv_of_check (s : State) (h : invHolds s = true) : Inv s := by
  simp only [invHolds, Bool.and_eq_true, decide_eq_true_eq] at h
  obtain ⟨⟨⟨⟨⟨⟨⟨⟨⟨⟨⟨⟨⟨⟨⟨⟨⟨⟨⟨p1, p2⟩, p3⟩, h1⟩, h2⟩, h3⟩, h4⟩, h5⟩, h6⟩, h7⟩, h8⟩, h9⟩, h10⟩, h11⟩, h12⟩, h13⟩, h14⟩, h15⟩, h16⟩, h17⟩ := h
  refine ⟨p1, p2, p3, h1, fun i hi => ?_, h3, h4, h5, fun t ht => ?_, h7, h8, h9, h10, h11, h12, h13, ?_, h15, h16, h17⟩
  · exact List.all_eq_true.1 h2 i (List.mem_range.2 hi)
  · rcases h6 with h | h
    · rw [h] at ht; cases ht
    · rw [h] at ht; exact (Option.some.inj ht).symm
  · unfold RxBufOk
    cases hp : s.phase <;> simp only [hp, decide_eq_true_eq] at h14 ⊢ <;> exact h14

/-! ### Well-formedness -/

/-- No row of R176 has code 3: the check refuses it. -/
theorem test_wf_refuses_unlisted_code : Instr.wf Config.baudTable (.cfg false false false 3#4) = false := by decide

/-- The same for the power-down word, with code 7. -/
theorem test_wf_refuses_unlisted_power_down : Instr.wf Config.baudTable (.pwrdn false false false 7#4) = false := by decide

/-- The words of V-B3 are well-formed. -/
theorem test_wf_accepts :
    Instr.wf Config.baudTable (.cfg true true false 15#4) = true ∧ Instr.wf Config.baudTable (.pwrdn false false true 1#4) = true ∧ Instr.wf Config.baudTable .rc = true := by decide

/-! ### Decoding: words written out bit by bit (R102 to R107) -/

/-- CFG: tag 11, FEN# 0, SHDNi 0, TM# 0, RM# 1, PM# 0, RAM# 0, IR 0, ST 0, PE 1, L 1, B 1001: 19200 7E1 of V-B3. -/
theorem test_decode_cfg : decodeWord 0b1100010000111001#16 = .ok (.cfg false true true 9#4) := by decide

/-- PWRDN: as CFG with SHDNi 1; ST 1, PE 1, L 0, B 1111: 300 8O2 of V-B3. -/
theorem test_decode_pwrdn : decodeWord 0b1101010001101111#16 = .ok (.pwrdn true true false 15#4) := by decide

/-- RD: all zeros (R105). -/
theorem test_decode_rd : decodeWord 0b0000000000000000#16 = .ok .rd := by decide

/-- TXD: tag 10, 000, TE# 0, RTS 1, PT 1, D 01000011: 0x43 under 7E1 in V-P2. -/
theorem test_decode_txd : decodeWord 0b1000001101000011#16 = .ok (.txd true 0x43#8) := by decide

/-- DEOFF: tag 10, 000, TE# 1, RTS 0, the rest 0 (R107). -/
theorem test_decode_deoff : decodeWord 0b1000010000000000#16 = .ok .deoff := by decide

/-- RC: tag 01, the rest 0 (R103). -/
theorem test_decode_rc : decodeWord 0b0100000000000000#16 = .ok .rc := by decide

/-- Reserved words (R108): WC with FEN# 1 and with IR 1, RC with bit 0 set, RD with bit 3 set, WD with neither a character's nor
the disable word's TE# and RTS, and DEOFF with data. -/
theorem test_decode_refuses_reserved :
    decodeWord 0b1110010000001010#16 = .error .reservedWriteConfig ∧
    decodeWord 0b1100010010001010#16 = .error .reservedWriteConfig ∧
    decodeWord 0b0100000000000001#16 = .error .reservedReadConfig ∧
    decodeWord 0b0000000000001000#16 = .error .reservedReadData ∧
    decodeWord 0b1000000001000001#16 = .error .reservedWriteData ∧
    decodeWord 0b1000010000000001#16 = .error .reservedWriteData := by decide

/-- A byte stream cut short is refused; a word's high byte is first (R72). -/
theorem test_decode_bytes :
    decode [0xC4#8] = .error .truncated ∧ decode [0x82#8, 0x41#8, 0x00#8] = .ok (.txd false 0x41#8, [0x00#8]) := by decide

/-- V-B3: the configuration words of 9600 8N1, 57600 7N1, 115200 8N2, and the power-down word of 9600 8N1. -/
theorem test_enc_configuration :
    enc (.cfg plain) = 0xC40A#16 ∧ enc (.cfg (defaultFormat fastBoard)) = 0xC40B#16 ∧
    enc (.cfg { baud := 57600, code := 1, wlen := .seven, par := .none, stop := .one }) = 0xC411#16 ∧
    enc (.cfg { baud := 115200, code := 0, wlen := .eight, par := .none, stop := .two }) = 0xC440#16 ∧
    enc (.pwrdn plain) = 0xD40A#16 := by decide

/-- V-P2: 0xC1 and 0xFF under 8N1, 7E1 and 8O2. -/
theorem test_enc_characters :
    enc (.txd plain 0xC1#8) = 0x82C1#16 ∧ enc (.txd sevenEven 0xC1#8) = 0x8241#16 ∧
    enc (.txd slowOdd 0xC1#8) = 0x82C1#16 ∧ enc (.txd sevenEven 0xFF#8) = 0x837F#16 ∧
    enc (.txd slowOdd 0xFF#8) = 0x83FF#16 := by decide

/-! ### Codec and hold -/

/-- V-P1: rows 0x80 and 0xFE. -/
theorem test_parity_bit :
    parityBit 0x80#8 .seven false = false ∧ parityBit 0x80#8 .seven true = true ∧
    parityBit 0x80#8 .eight false = true ∧ parityBit 0xFE#8 .eight true = false := by decide

/-- V-P4: masking, parity error, PR ignored without parity, and the framing bit when it is reported. -/
theorem test_classify :
    classify false sevenEven 0xC143#16 = { ch := 0x43#8, flag := .normal } ∧
    classify false sevenEven 0xC0C3#16 = { ch := 0x43#8, flag := .parityError } ∧
    classify false plain 0xC141#16 = { ch := 0x41#8, flag := .normal } ∧
    classify true plain 0xC441#16 = { ch := 0x41#8, flag := .framingError } := by decide

/-- V-T1: 9600 8N1, 19200 7E1, 300 8O2. -/
theorem test_hold :
    holdNs plain = 1041660 ∧ holdNs sevenEven = 520830 ∧ holdNs slowOdd = 39999996 := by decide

/-- V-B2, fourth row: the baud is taken, the other three fields fall back. -/
theorem test_resolve :
    resolve board 38400 6 .other 3 plain =
      ({ baud := 38400, code := 8, wlen := .eight, par := .none, stop := .one }, [.wlen 6, .par, .stop 3]) := by decide

/-! ### One instruction -/

/-- P1 step 4: the first commit makes the line active. -/
theorem test_cfg_starts_the_line :
    (ran (.cfg false false false 10#4) { boot with line := .starting, phase := .top, txe := false, env := answering 0x4000#16 }).line
      = .active := by decide

/-- V-E1: CFG answered C241 leaves clear-to-send and captures nothing, but notes the waiting character. -/
theorem test_cfg_takes_status_only :
    let t := ran (.cfg false false false 10#4) { boot with phase := .top, env := answering 0xC241#16 }
    t.txe = true ∧ t.rxa = true ∧ t.cts = false ∧ t.pend.rxp = true ∧ t.rxbuf = [] := by decide

/-- P3 step 5: the suspend's power-down. -/
theorem test_pwrdn_suspends :
    let t := ran (.pwrdn false false false 10#4)
      { boot with line := .suspending, phase := .top, de := .on, os := some 0, pend := { PendingFlags.none with susp := true }
                  env := answering 0x4000#16 }
    t.line = .suspended ∧ t.de = .unknown ∧ t.armed = false ∧ t.os = none ∧ t.phase = .endPass := by decide

/-- P7 step 2: the power-down of a close. -/
theorem test_pwrdn_stops :
    let t := ran (.pwrdn false false false 10#4)
      { boot with phase := .top, pend := { PendingFlags.none with stop := true }, env := answering 0x4000#16 }
    t.line = .shutdown ∧ t.phase = .exited ∧ t.de = .unknown ∧ t.pend = PendingFlags.none := by decide

/-- V-E1: RD answered C241 collects 0x41 and updates all three status bits. -/
theorem test_rd_collects :
    let t := ran .rd { boot with phase := .drain 0, env := answering 0xC241#16 }
    t.txe = true ∧ t.rxa = true ∧ t.cts = true ∧ t.rxbuf = [{ ch := 0x41#8, flag := .normal }] ∧ t.phase = .drain 1 := by decide

/-- P4 step 4: a parity error is counted and logged. -/
theorem test_rd_logs_parity_error :
    let t := ran .rd { boot with fmt := sevenEven, phase := .drain 0, now := 2084320, env := answering 0xC043#16 }
    t.ctr.nperr = 1 ∧ t.log = [{ event := .rxParityError 0x43#8, time := 2084320 }] := by decide

/-- V-T2, second row: the deadline not elapsed, the hold is added to it. -/
theorem test_txd_extends_deadline :
    let t := ran (.txd false 0x43#8) { sending with dl := 1042660, now := 6000, env := answering 0x4000#16 }
    t.dl = 2084320 ∧ t.tc = 6000 ∧ t.de = .on ∧ t.tail = 1 := by decide

/-- P6 step 2: a failed character stays queued, and the deadline stays. -/
theorem test_txd_failure_keeps_the_byte :
    let t := ran (.txd false 0x43#8) { sending with dl := 7, env := failing }
    t.tail = 0 ∧ t.dl = 7 ∧ t.fail = true ∧ t.pend.txn = true ∧ t.log = [{ event := .transportError 0x8243#16 .tx, time := 0 }] := by decide

/-- V-T3, fifth row, and V-E1: DEOFF answered 4200. -/
theorem test_deoff_applies :
    let t := ran .deoff { releasing with env := answering 0x4200#16 }
    t.de = .off ∧ t.outcome = some .applied ∧ t.cts = true ∧ t.rxa = false := by decide

/-- V-T3, last row: a failed DEOFF asks for another. -/
theorem test_deoff_failure :
    let t := ran .deoff { releasing with env := failing }
    t.de = .on ∧ t.outcome = none ∧ t.pend.dis = true ∧ t.fail = true := by decide

/-- I15: RC is refused. -/
theorem test_rc_refused : exec .rc boot = .refused .neverIssued := rfl

/-! ### Words placed to be issued, from reset with one answer scripted -/

/-- The exchanges of the first step after a word is placed. -/
def firstWords (w : Nat) : List Word :=
  (after ({ fresh with env := answering 0x4000#16 }.withFetchWord 16 w)).env.bus.map (·.out)

theorem test_placed_words_are_issued :
    firstWords 0xC40A = [0xC40A#16] ∧ firstWords 0xD46F = [0xD46F#16] ∧ firstWords 0x0000 = [0x0000#16] ∧
    firstWords 0x8343 = [0x8343#16] ∧ firstWords 0x8400 = [0x8400#16] ∧ firstWords 0x4000 = [] := by decide

theorem test_fetch_table_word :
    decodeTableWord 16 0xD46F = some (.pwrdn true true false 15#4) ∧ decodeTableWord 16 0x8401 = none := by decide

/-! ### Witnesses: bus words, codec, hold -/

theorem witness_DecodedWordEncodesBack : decodeWord 0x8343#16 = .ok (.txd true 0x43#8) := by decide

/-- The slowest and the fastest rate, each with the longest or the shortest character. -/
theorem witness_HoldIsPositiveAndAlmostExact :
    (board.baudTable = Config.baudTable ∧ FormatOk board slowOdd) ∧ fastBoard.baudTable = Config.baudTable ∧
    FormatOk fastBoard { baud := 230400, code := 0, wlen := .seven, par := .none, stop := .one } := by
  unfold FormatOk; decide

theorem witness_BaudTableValues :
    (baudToChipCode Config.baudTable 600 .slow = some 14#4 ∧ baudToChipCode Config.baudTable 600 .fast = some 15#4) ∧
    (baudToChipCode Config.baudTable 115200 .slow = some 0#4 ∧ baudToChipCode Config.baudTable 115200 .fast = some 1#4) ∧
    (⟨300, some 15, none⟩ : Config.BaudRow) ∈ Config.baudTable ∧
    Config.baudTable.Pairwise (fun a b => a.rate ≠ b.rate) := by decide

theorem witness_ResolveFallsBackFieldByField :
    baudToChipCode board.baudTable 300 board.crystal = some 15#4 ∧ baudToChipCode board.baudTable 230400 board.crystal = none ∧
    FormatOk board sevenEven ∧
    ReqParity.mode .odd = .mode .odd ∧ ReqParity.other = .other := by unfold FormatOk; decide

theorem witness_UnsupportedRateTwiceSameFallback : baudToChipCode board.baudTable 230400 board.crystal = none := by decide

theorem witness_ClassifyFlagsACharacter :
    (true = true ∧ (0xC441#16).getLsbD 10 = true) ∧ (false = false ∨ (0xC441#16).getLsbD 10 = false) ∧
    (true = false ∨ (0xC041#16).getLsbD 10 = false) := by decide

/-! ### Witnesses: the transactions -/

theorem witness_CfgCommitsStagedFormat :
    nextAnswer { boot with env := answering 0xC241#16 }.env = .ok 0xC241#16 ∧ nextAnswer { boot with env := failing }.env = .err := by
  decide

/-- `boot` at `Top` with a stop requested. -/
def stopping : State := { boot with phase := .top, pend := { PendingFlags.none with stop := true } }

/-- `boot` at `Top` with a suspend requested. -/
def suspending : State :=
  { boot with line := .suspending, phase := .top, pend := { PendingFlags.none with susp := true } }

theorem witness_PowerDownAtStopShutsDown :
    (stopping.pend.stop = true ∧ nextAnswer { stopping with env := answering 0x4000#16 }.env = .ok 0x4000#16) ∧
    nextAnswer { stopping with env := failing }.env = .err := by decide

theorem witness_PowerDownAtSuspendHalts :
    (suspending.pend.stop = false ∧ suspending.pend.susp = true ∧
      nextAnswer { suspending with env := answering 0x4000#16 }.env = .ok 0x4000#16) ∧
    nextAnswer { suspending with env := failing }.env = .err := by decide

theorem witness_PowerDownUnrequested :
    (boot.pend.stop = false ∧ boot.pend.susp = false ∧ nextAnswer { boot with env := answering 0x4000#16 }.env = .ok 0x4000#16) ∧
    nextAnswer { boot with env := failing }.env = .err := by decide

/-- `boot` in a drain after `k` reads, each of which brought the character 0x41. -/
def draining (k : Nat) (e : Env) : State :=
  { boot with phase := .drain k, rxbuf := List.replicate k { ch := 0x41#8, flag := .normal }, env := e }

/-- No character; one below the bound, at both ends of the range; one at the bound; outside a drain; and a failure. -/
theorem witness_ReadDataDrainsOneCharacter :
    (nextAnswer (draining 0 (answering 0x4000#16)).env = .ok 0x4000#16 ∧ (draining 0 (answering 0x4000#16)).phase = .drain 0 ∧
      (0x4000#16).getLsbD 15 = false) ∧
    ((draining 0 (answering 0xC041#16)).phase = .drain 0 ∧ (0xC041#16).getLsbD 15 = true ∧ 0 + 1 < board.rxDrainMax) ∧
    ((draining 6 (answering 0xC041#16)).phase = .drain 6 ∧ 6 + 1 < board.rxDrainMax) ∧
    ((draining 7 (answering 0xC041#16)).phase = .drain 7 ∧ board.rxDrainMax ≤ 7 + 1) ∧
    ((∀ k, boot.phase ≠ .drain k) ∧ nextAnswer { boot with env := answering 0xC041#16 }.env = .ok 0xC041#16) ∧
    nextAnswer (draining 0 failing).env = .err :=
  ⟨by decide, by decide, by decide, by decide, ⟨nofun, by decide⟩, by decide⟩

theorem witness_TransmitSendsOneCharacter :
    (nextAnswer { sending with env := answering 0x4000#16 }.env = .ok 0x4000#16 ∧ (0x4000#16).getLsbD 15 = false) ∧
    (nextAnswer { sending with env := answering 0x8041#16 }.env = .ok 0x8041#16 ∧ (0x8041#16).getLsbD 15 = true) ∧
    nextAnswer { sending with env := failing }.env = .err := by decide

theorem witness_DisableDropsTheEnable :
    (nextAnswer { releasing with env := answering 0x4200#16 }.env = .ok 0x4200#16 ∧ (0x4200#16).getLsbD 15 = false) ∧
    (nextAnswer { releasing with env := answering 0xC041#16 }.env = .ok 0xC041#16 ∧ (0xC041#16).getLsbD 15 = true) ∧
    nextAnswer { releasing with env := failing }.env = .err := by decide

/-- R151: three characters and a sink that takes one, then none, then one: the third is dropped and its fourth answer kept. -/
theorem test_deliver_drops_the_rest :
    let t := deliver (draining 3 { script [] [] with accepts := [1, 0, 1, 7] })
    t.env.sink.length = 2 ∧ t.ctr.ndrop = 1 ∧ t.env.accepts = [7] ∧ t.log.length = 1 ∧ t.rxbuf = [] := by decide

/-- R151: nothing to deliver, no call. -/
theorem test_deliver_nothing : deliver (draining 0 (script [] [])) = draining 0 (script [] []) := by decide

theorem witness_EveryTransactionIsOneExchange : Instr.deoff ≠ .rc := by decide

theorem witness_StatusDecodedFromEveryAnswer :
    Instr.cfg false false false 10#4 ≠ .rc ∧ nextAnswer { boot with env := answering 0xC241#16 }.env = .ok 0xC241#16 := by decide

theorem witness_FailedExchangeChangesOnlyBookkeeping :
    (Instr.rd ≠ .rc ∧ nextAnswer { boot with env := failing }.env = .err ∧ isPowerDown .rd = false) ∧
    (Instr.pwrdn false false false 10#4 ≠ .rc ∧ nextAnswer { suspending with env := failing }.env = .err ∧
      suspending.pend.stop = false) := by decide

/-! ### Witnesses: the worker -/

/-- The worker moves next, and the bus answers `0x4000`. -/
def workerNext : Env := script [.worker] [.ok 0x4000#16]

/-- `s` with the worker next. -/
def State.turn (s : State) : State := { s with env := workerNext }

/-- An ordinary transaction, and the disable. -/
theorem witness_StepRunsTheDecodedInstruction :
    (boot.attached = true ∧ nextMove (State.turn sending).env = .worker ∧
      workerPlan (State.turn sending).chosen = .issue (.txd plain 0x43#8) (State.turn sending).chosen) ∧
    (nextMove (State.turn releasing).env = .worker ∧
      workerPlan (State.turn releasing).chosen =
        .issue .deoff { (State.turn releasing).chosen with pend := PendingFlags.none }) := by decide

theorem witness_PlacedWordRunsNext : Instr.txd true 0x43#8 ≠ .rc ∧ 2 ≤ boot.board.xmitCap := by decide

theorem witness_ParkedWorkerNeedsAWake :
    (State.turn boot).attached = true ∧ nextMove (State.turn boot).env = .worker ∧ (State.turn boot).phase = .parked ∧
    (State.turn boot).wake = false ∧ (State.turn { boot with wake := true }).phase = .parked := by decide

theorem witness_ExitedWorkerIsSilent :
    fresh.phase = .exited ∧ ∃ t, step { fresh with env := script [.host .openPort] [] } = .next t := ⟨rfl, _, rfl⟩

/-- `boot` at `Top`, the worker next. -/
def atTop : State := State.turn { boot with phase := .top }

/-- One state for each item of the priority order. -/
theorem witness_TopTakesTheFirstItem :
    (atTop.attached = true ∧ nextMove atTop.env = .worker ∧ atTop.phase = .top) ∧
    (State.turn stopping).pend.stop = true ∧
    ((State.turn suspending).pend.stop = false ∧ (State.turn suspending).pend.susp = true) ∧
    (atTop.pend.stop = false ∧ atTop.pend.susp = false) ∧
    { atTop with line := .suspended }.line = .suspended ∧
    ((State.turn releasing).line ≠ .suspended ∧ (State.turn releasing).pend.dis = true) ∧
    { atTop with pend := { atTop.pend with cfg := true } }.pend.cfg = true ∧
    (atTop.line = .active ∧ atTop.pend.dis = false ∧ atTop.pend.cfg = false) ∧
    ({ atTop with line := .starting }.line ≠ .suspended ∧ { atTop with line := .starting }.line ≠ .active) := by decide

/-- A transmit started; a byte queued; the enable off; one nanosecond early; exactly at the deadline. -/
theorem witness_DisableEvaluationBranches :
    ((State.turn releasing).attached = true ∧ nextMove (State.turn releasing).env = .worker ∧
      (State.turn releasing).phase = .top ∧ (State.turn releasing).pend.stop = false ∧
      (State.turn releasing).pend.susp = false ∧ (State.turn releasing).line ≠ .suspended ∧
      (State.turn releasing).pend.dis = true) ∧
    { releasing with pend := { releasing.pend with txs := true } }.pend.txs = true ∧
    { releasing with head := 1 }.head ≠ releasing.tail ∧
    ({ releasing with de := .off }.de = .off ∧ releasing.pend.txs = false ∧ releasing.head = releasing.tail) ∧
    (releasing.de ≠ .off ∧ { releasing with now := 99 }.now < releasing.dl) ∧
    (releasing.de ≠ .off ∧ releasing.dl ≤ releasing.now) := by decide

theorem witness_ServicingTakesItsFlags :
    atTop.attached = true ∧ nextMove atTop.env = .worker ∧ atTop.phase = .top ∧ atTop.line = .active ∧
    atTop.pend.stop = false ∧ atTop.pend.susp = false ∧ atTop.pend.dis = false ∧ atTop.pend.cfg = false := by decide

/-- Preempted and not, in a drain and in the transmit loop; nothing queued, stopped, busy; a byte to send; a byte never written. -/
theorem witness_DrainAndTransmitSteps :
    ((draining 3 workerNext).attached = true ∧ nextMove (draining 3 workerNext).env = .worker ∧
      (draining 3 workerNext).phase = .drain 3 ∧ (draining 3 workerNext).pend.stop = false ∧
      (draining 3 workerNext).pend.susp = false) ∧
    { draining 3 workerNext with pend := stopping.pend }.pend.stop = true ∧
    { draining 3 workerNext with pend := suspending.pend }.pend.susp = true ∧
    ((State.turn sending).phase = .tx ∧ (State.turn sending).pend.stop = false ∧ (State.turn sending).pend.susp = false ∧
      (State.turn sending).head ≠ (State.turn sending).tail ∧ (State.turn sending).txstop = false ∧
      (State.turn sending).txe = true ∧ (State.turn sending).mem.read (State.turn sending).tail = some 0x43#8) ∧
    ({ sending with head := 0 }.head = sending.tail ∧ { sending with txstop := true }.txstop = true ∧
      { sending with txe := false }.txe = false) ∧
    { sending with pend := stopping.pend }.pend.stop = true ∧
    { sending with mem := [] }.mem.read sending.tail = none := by decide

theorem witness_EndArmsThenLoopsOrParks :
    (State.turn { boot with phase := .endPass }).attached = true ∧
    nextMove (State.turn { boot with phase := .endPass }).env = .worker ∧
    (State.turn { boot with phase := .endPass }).phase = .endPass := by decide

/-! ### Witnesses: sources and clock -/

theorem witness_InterruptAndPollSetFlags :
    (boot.attached = true ∧ nextMove (script [.irq] []) = .irq) ∧
    (nextMove (script [.poll] []) = .poll ∧ boot.board.activation.pollPeriod = some 1000) ∧
    { board with activation := .irqOnly }.activation.pollPeriod = none := by decide

theorem witness_OneShotFiresWhenDue :
    (boot.attached = true ∧ nextMove (script [.fire] []) = .fire) ∧
    ({ boot with os := some 100 }.os = some 100 ∧ (100 : Nat) ≤ { boot with now := 100 }.now) ∧
    { boot with now := 99 }.now < (100 : Nat) ∧ boot.os = none := by decide

theorem witness_OnlyTheClockAdvancesTime :
    (boot.attached = true ∧ nextMove (script [.tick 5] []) = .tick 5 ∧
      ∃ t, step { boot with env := script [.tick 5] [] } = .next t) ∧
    ((∀ d, nextMove (script [.irq] []) ≠ .tick d) ∧ ∃ t, step { boot with env := script [.irq] [] } = .next t) :=
  ⟨⟨rfl, rfl, _, rfl⟩, nofun, _, rfl⟩

/-! ### Witnesses: host requests -/

/-- `s` with the host's request `r` next. -/
def State.asked (r : Request) (s : State) : State := { s with env := script [.host r] [] }

/-- A refusal, a nop and an acceptance. -/
theorem witness_AcceptanceMatrix :
    (Inv (State.asked .openPort boot) ∧ (State.asked .openPort boot).attached = true ∧
      nextMove (State.asked .openPort boot).env = .host .openPort ∧ verdict .openPort boot.line boot.pend.stop = .refused) ∧
    (Inv (State.asked .resume boot) ∧ nextMove (State.asked .resume boot).env = .host .resume ∧
      verdict .resume boot.line boot.pend.stop = .nop) ∧
    (Inv (State.asked .close boot) ∧ nextMove (State.asked .close boot).env = .host .close ∧
      verdict .close boot.line boot.pend.stop = .accepted) :=
  ⟨⟨inv_of_check _ (by decide), by decide⟩, ⟨inv_of_check _ (by decide), by decide⟩, inv_of_check _ (by decide), by decide⟩

/-- A queue with room for everything, and one with room for a single byte of two. -/
theorem witness_PushQueuesTheLeadingBytes :
    (boot.attached = true ∧ nextMove (State.asked (.push [1#8, 2#8]) boot).env = .host (.push [1#8, 2#8]) ∧
      boot.line ≠ .shutdown ∧ boot.pend.stop = false ∧ boot.board.xmitCap - 1 - qCount boot = 4095) ∧
    boot.board.xmitCap - 1 - qCount { boot with head := 4094 } = 1 := by decide

theorem witness_OpenStartsTheLine :
    fresh.attached = true ∧ nextMove (State.asked .openPort fresh).env = .host .openPort ∧ fresh.line = .shutdown := by decide

theorem witness_SetFormatStagesTheRequest :
    boot.attached = true ∧
    nextMove (State.asked (.setFormat 19200 7 (.mode .even) 1) boot).env = .host (.setFormat 19200 7 (.mode .even) 1) ∧
    boot.line = .active ∧ boot.pend.stop = false := by decide

theorem witness_FlushFlowControlAndClose :
    (boot.attached = true ∧ boot.line ≠ .shutdown ∧ boot.pend.stop = false) ∧
    nextMove (State.asked .flush boot).env = .host .flush ∧ nextMove (State.asked .stopTx boot).env = .host .stopTx ∧
    nextMove (State.asked .startTx boot).env = .host .startTx ∧ nextMove (State.asked .close boot).env = .host .close := by decide

theorem witness_QueriesChangeNothing :
    boot.attached = true ∧ nextMove (State.asked .queryModem boot).env = .host .queryModem ∧
    nextMove (State.asked .queryTxe boot).env = .host .queryTxe ∧
    nextMove (State.asked (.setMctrl 3) boot).env = .host (.setMctrl 3) := by decide

theorem witness_SuspendAndResumeRequests :
    (boot.attached = true ∧ boot.pend.stop = false) ∧
    (nextMove (State.asked .suspend boot).env = .host .suspend ∧ (boot.line = .starting ∨ boot.line = .active)) ∧
    { boot with line := .starting }.line = .starting ∧
    (nextMove (State.asked .resume boot).env = .host .resume ∧ { boot with line := .suspended }.line = .suspended) ∧
    suspending.line = .suspending := by decide

/-- `fresh` after a detach. -/
def gone : State := { fresh with attached := false }

theorem witness_DetachAndAttach :
    (fresh.attached = true ∧ nextMove (State.asked .detach fresh).env = .host .detach ∧ fresh.line = .shutdown) ∧
    (gone.attached = false ∧ ∀ a t, nextMove (State.turn gone).env ≠ .host (.attach a t)) ∧
    nextMove (State.asked (.attach true 7) gone).env = .host (.attach true 7) ∧
    nextMove (State.asked (.attach false 7) gone).env = .host (.attach false 7) :=
  ⟨by decide, ⟨rfl, nofun⟩, by decide⟩

theorem witness_HostNeverWritesWorkerFields :
    (State.asked .openPort fresh).attached = true ∧ nextMove (State.asked .openPort fresh).env = .host .openPort ∧
    ∃ t, step (State.asked .openPort fresh) = .next t := ⟨rfl, rfl, _, rfl⟩

/-! ### Witnesses: the machine as a whole -/

theorem witness_ResetValues : baudToChipCode board.baudTable board.defaultFormat.baud board.crystal = some 10#4 := by decide

/-- A queue of two slots, drains of one read, one attempt, and a table of one row: the smallest parameters R355 allows. -/
def tiny : Config.Board :=
  { board with baudTable := [⟨50, some 3, none⟩], xmitCap := 2, rxDrainMax := 1, sinkAttempts := 1
               defaultFormat := { baud := 50, wlen := .seven, par := .odd, stop := .two } }

theorem witness_ResetSatisfiesTheInvariant :
    2 ≤ tiny.xmitCap ∧ 1 ≤ tiny.rxDrainMax ∧ 1 ≤ tiny.sinkAttempts ∧
    baudToChipCode tiny.baudTable tiny.defaultFormat.baud tiny.crystal ≠ none := by decide

/-- R31: a queue of two slots takes one byte of two. R201: 11 bits of 20 ms. -/
theorem test_small_parameters :
    let s := { State.resetWith tiny 0 (script [] []) with line := .active, phase := .parked }
    (push [1#8, 2#8] s).head = 1 ∧ (push [1#8, 2#8] s).ctr.nqfull = 1 ∧ s.hold = 220000000 := by decide

theorem witness_EveryStepKeepsTheInvariant :
    Inv (State.turn sending) ∧ ∃ t, step (State.turn sending) = .next t := ⟨inv_of_check _ (by decide), _, rfl⟩

theorem witness_NoStepFaultsOrIsRefused : Inv (State.turn sending) := inv_of_check _ (by decide)

theorem witness_OnlySequencerWordsReachTheBus : ∃ t, step (State.turn sending) = .next t := ⟨_, rfl⟩

theorem witness_ReadConfigurationNeverRuns :
    step (State.turn sending) = .next (after (State.turn sending)) ∧
    (⟨0x8243#16, .ok 0x4000#16⟩ : Exchange) ∈ (after (State.turn sending)).env.bus := ⟨rfl, by decide⟩

theorem witness_LineTransitionsAreTheListedOnes :
    Inv (State.turn stopping) ∧ step (State.turn stopping) = .next (after (State.turn stopping)) ∧
    (after (State.turn stopping)).line ≠ (State.turn stopping).line := ⟨inv_of_check _ (by decide), rfl, by decide⟩

theorem witness_DisableWordWaitsForDeadlineAndQueue :
    step (State.turn releasing) = .next (after (State.turn releasing)) ∧
    (after (State.turn releasing)).env.bus = (State.turn releasing).env.bus ++ [{ out := 0x8400#16, answer := .ok 0x4000#16 }] :=
  ⟨rfl, by decide⟩

/-- The enable going off, and a character sent. -/
theorem witness_EnableDropsOnlyBySafeDisable :
    ((State.turn releasing).attached = true ∧ step (State.turn releasing) = .next (after (State.turn releasing)) ∧
      (State.turn releasing).de ≠ .off ∧ (after (State.turn releasing)).de = .off) ∧
    ((State.turn sending).attached = true ∧ step (State.turn sending) = .next (after (State.turn sending)) ∧
      (after (State.turn sending)).env.bus =
        (State.turn sending).env.bus ++ [{ out := enc (.txd plain 0x43#8), answer := .ok 0x4000#16 }]) :=
  ⟨⟨rfl, rfl, by decide⟩, rfl, rfl, by decide⟩

theorem witness_DeadlinesOnlyMoveForward :
    Inv (State.turn sending) ∧ (State.turn sending).attached = true ∧
    step (State.turn sending) = .next (after (State.turn sending)) ∧ (after (State.turn sending)).dl = 1041660 ∧
    (State.turn sending).board.baudTable = Config.baudTable :=
  ⟨inv_of_check _ (by decide), rfl, rfl, by decide, rfl⟩

theorem witness_ParametersNeverChange : ∃ t, step (State.asked .detach fresh) = .next t := ⟨_, rfl⟩

/-- `boot` just opened, at `Top`, the worker next. -/
def starting : State :=
  State.turn { boot with line := .starting, phase := .top, pend := { PendingFlags.none with cfg := true } }

/-- `boot` suspended and parked, its chip powered down. -/
def asleep : State := { boot with line := .suspended, armed := false, de := .unknown, chip := .known 0x140A#14 }

/-- `boot` suspended, a stop requested at `Top`. -/
def asleepStopping : State := State.turn { asleep with phase := .top, pend := { PendingFlags.none with stop := true } }

/-- `asleep` just resumed, at `Top`, the worker next. -/
def resumed : State :=
  State.turn { asleep with line := .active, armed := true, phase := .top, pend := { PendingFlags.none with cfg := true } }

/-- An open and a resume; the commit pending; the line `Starting`; a close while `Suspended`; the chip leaving power-down. -/
theorem witness_SessionStartsWithACommit :
    (Inv (State.asked .openPort fresh) ∧ (State.asked .openPort fresh).attached = true ∧
      (∃ t, step (State.asked .openPort fresh) = .next t) ∧
      nextMove (State.asked .openPort fresh).env = .host .openPort ∧ (State.asked .openPort fresh).line = .shutdown) ∧
    (Inv (State.asked .resume asleep) ∧ (State.asked .resume asleep).attached = true ∧
      (∃ t, step (State.asked .resume asleep) = .next t) ∧
      nextMove (State.asked .resume asleep).env = .host .resume ∧ (State.asked .resume asleep).line = .suspended ∧
      (State.asked .resume asleep).pend.stop = false ∧ (State.asked .resume asleep).phase ≠ .endPass) ∧
    (Inv resumed ∧ CommitFirst resumed ∧ ∃ t, step resumed = .next t) ∧
    (Inv starting ∧ starting.line = .starting ∧ step starting = .next (after starting) ∧
      (after starting).env.bus = starting.env.bus ++ [{ out := 0xC40A#16, answer := .ok 0x4000#16 }]) ∧
    (Inv asleepStopping ∧ asleepStopping.line = .suspended ∧ step asleepStopping = .next (after asleepStopping) ∧
      (after asleepStopping).env.bus = asleepStopping.env.bus ++ [{ out := 0xD40A#16, answer := .ok 0x4000#16 }]) ∧
    (step resumed = .next (after resumed) ∧ resumed.chip = .known 0x140A#14 ∧ (0x140A#14).getLsbD 12 = true ∧
      (after resumed).chip = .known 0x040A#14 ∧ (0x040A#14).getLsbD 12 = false) := by
  refine ⟨⟨inv_of_check _ (by decide), rfl, ⟨_, rfl⟩, rfl, rfl⟩,
    ⟨inv_of_check _ (by decide), rfl, ⟨_, rfl⟩, rfl, rfl, rfl, nofun⟩,
    ⟨inv_of_check _ (by decide), ?_, _, rfl⟩, ⟨inv_of_check _ (by decide), rfl, rfl, by decide⟩,
    ⟨inv_of_check _ (by decide), rfl, rfl, by decide⟩, rfl, by decide⟩
  unfold CommitFirst; decide

/-- A stop requested at `End` of a failed pass: the longest way out. -/
theorem witness_StopWithinThreeWorkerSteps :
    let s : State := { boot with phase := .endPass, fail := true, wake := true, pend := stopping.pend
                                 env := script [.worker, .worker, .worker] [] }
    Inv s ∧ s.attached = true ∧ s.pend.stop = true ∧ s.env.agenda = .worker :: .worker :: .worker :: [] :=
  ⟨inv_of_check _ (by decide), rfl, rfl, rfl⟩

/-- Two bytes queued across the end of the array. -/
theorem witness_TransmitLoopFlushesTheQueue :
    let s : State := { boot with phase := .tx, mem := [(0, 0x42#8), (4095, 0x41#8)], head := 1, tail := 4095
                                 env := script [.worker, .worker] [.ok 0x4000#16, .ok 0x4000#16] }
    Inv s ∧ s.attached = true ∧ s.phase = .tx ∧ s.pend.stop = false ∧ s.pend.susp = false ∧ s.txstop = false ∧ s.txe = true ∧
    0 < qCount s ∧ s.env.agenda = List.replicate (qCount s) .worker ++ [] ∧
    s.env.answers = List.replicate (qCount s) (.ok 0x4000#16) ++ [] :=
  ⟨inv_of_check _ (by decide), by decide⟩

/-- The state right after a suspend step. -/
theorem witness_ResumeRaceDropsTheEnableFirst :
    let s : State := { boot with line := .suspended, armed := false, phase := .endPass, de := .unknown
                                 env := script [.host .resume, .worker, .fire, .worker] [] }
    Inv s ∧ s.attached = true ∧ s.line = .suspended ∧ s.phase = .endPass ∧ s.de = .unknown ∧ s.os = none ∧
    s.pend.stop = false ∧ s.pend.dis = false ∧ s.pend.txs = false ∧ s.fail = false ∧ s.head = s.tail ∧ s.dl ≤ s.now ∧
    s.env.agenda = .host .resume :: .worker :: .fire :: .worker :: [] :=
  ⟨inv_of_check _ (by decide), by decide⟩

end Sys2Proof.Tests
end

section
/-!
The frame of one step on the Port itself: no step changes its parameters, and only a detach ends it (R6, R288).
-/

namespace Sys2Proof.Machine

/-- The two states have the same parameters, and a Port exists in both or in neither. -/
def SamePort (s t : State) : Prop := t.board = s.board ∧ t.attached = s.attached

theorem SamePort.rfl {s : State} : SamePort s s := ⟨Eq.refl _, Eq.refl _⟩

theorem SamePort.trans {s t u : State} (h : SamePort s t) (g : SamePort t u) : SamePort s u :=
  ⟨g.1.trans h.1, g.2.trans h.2⟩

/-- A guard between two outcomes that keep the Port: the shape of every request and source that may be refused or idle. -/
theorem SamePort.ite {c : Prop} [Decidable c] {s t u : State} (ht : SamePort s t) (hu : SamePort s u) :
    SamePort s (if c then t else u) := by
  split
  · exact ht
  · exact hu

/-! ### The transactions -/

/-- An exchange keeps the Port if what follows each of its answers does. -/
theorem samePort_exchange {w : Word} {onErr : State → State} {onOk : Word → State → State} {s : State}
    (hErr : ∀ u, SamePort u (onErr u)) (hOk : ∀ r u, SamePort u (onOk r u)) :
    SamePort s (exchange w onErr onOk s) := by
  have hEx : SamePort s (exchanged w s) := ⟨exchanged_board w s, exchanged_attached w s⟩
  obtain ⟨-, e⟩ | ⟨r, -, e⟩ := exchange_cases w onErr onOk s
  · rw [e]; exact hEx.trans (hErr _)
  · rw [e]; exact hEx.trans (hOk r _)

theorem samePort_failExchange (w : Word) (again : PendingFlags → PendingFlags) (s : State) :
    SamePort s (failExchange w again s) := by
  rw [failExchange_eq]; exact .rfl

theorem samePort_deliver (s : State) : SamePort s (deliver s) := ⟨deliver_board s, deliver_attached s⟩

theorem samePort_capture (r : Word) (inDrain : Bool) (s : State) : SamePort s (capture r inDrain s) :=
  ⟨capture_board r inDrain s, capture_attached r inDrain s⟩

/-- Where a drain goes next is a matter of its phase, of delivery and of one flag (R241). -/
theorem samePort_drainNext (r : Word) (s : State) : SamePort s (drainNext r s) := by
  unfold drainNext
  split
  · exact .ite (samePort_deliver s) (.ite .rfl (samePort_deliver (setPend _ s)))
  · exact .rfl

theorem samePort_commit (w : Word) (s : State) : SamePort s (commit w s) :=
  samePort_exchange (s := setPend _ s) (samePort_failExchange w _) fun _ _ => .rfl

theorem samePort_stopSequence (w : Word) (s : State) : SamePort s (stopSequence w s) :=
  samePort_exchange (fun _ => .rfl) fun _ _ => .rfl

theorem samePort_suspendStep (w : Word) (s : State) : SamePort s (suspendStep w s) :=
  samePort_exchange (samePort_failExchange w _) fun _ _ => .rfl

theorem samePort_powerDown (w : Word) (s : State) : SamePort s (powerDown w s) :=
  samePort_exchange (samePort_failExchange w _) fun _ _ => .rfl

theorem samePort_readData (w : Word) (s : State) : SamePort s (readData w s) :=
  samePort_exchange (samePort_failExchange w _) fun r u =>
    (samePort_capture r true (decodeData r (decodeStatus r u))).trans (samePort_drainNext r _)

theorem samePort_transmit (w : Word) (s : State) : SamePort s (transmit w s) :=
  samePort_exchange (samePort_failExchange w _) fun r _ => samePort_capture r false _

theorem samePort_dropEnable (w : Word) (s : State) : SamePort s (dropEnable w s) :=
  samePort_exchange (samePort_failExchange w _) fun r _ => samePort_capture r false _

/-- Whatever word runs, the Port and its parameters stay. -/
theorem samePort_of_exec {i : Instr} {s t : State} (h : exec i s = .next t) : SamePort s t := by
  cases i with
  | cfg st pe l b => cases h; exact samePort_commit _ s
  | pwrdn st pe l b =>
    cases h
    exact .ite (samePort_stopSequence _ s) (.ite (samePort_suspendStep _ s) (samePort_powerDown _ s))
  | rd => cases h; exact samePort_readData _ s
  | txd pt d => cases h; exact samePort_transmit _ s
  | deoff => cases h; exact samePort_dropEnable _ s
  | rc => cases h

/-! ### The worker -/

theorem samePort_of_disableEvaluation {s t : State} (h : disableEvaluation s = .silent t) : SamePort s t := by
  obtain ⟨e, -⟩ | ⟨e, -⟩ | ⟨e, -⟩ | ⟨e, -⟩ := disableEvaluation_cases s _ rfl <;> rw [e] at h <;> cases h <;> exact .rfl

theorem samePort_of_topPlan {s t : State} (h : topPlan s = .silent t) : SamePort s t := by
  obtain ⟨e, -⟩ | ⟨-, -, ⟨e, -⟩ | ⟨e, -⟩ | ⟨e, -⟩ | ⟨e, -⟩ | ⟨e, -⟩⟩ := topPlan_cases s <;> rw [e] at h
  case inr.inr.inl => exact samePort_of_disableEvaluation h
  all_goals cases h <;> exact .rfl

/-- A worker step without a word keeps the Port, in every phase (R230). -/
theorem samePort_of_silent {s t : State} (h : workerPlan s = .silent t) : SamePort s t := by
  unfold workerPlan at h
  cases hp : s.phase with simp only [hp] at h
  | exited => cases h; exact .rfl
  | parked => split at h <;> cases h <;> exact .rfl
  | top => exact samePort_of_topPlan h
  | drain k =>
    obtain ⟨e, -⟩ | ⟨e, -⟩ := drainPlan_cases s <;> rw [e] at h <;> cases h
    exact samePort_deliver s
  | tx =>
    obtain ⟨e, -⟩ | ⟨-, ⟨e, -⟩ | ⟨-, -, -, ⟨c, -, e⟩ | ⟨-, e⟩⟩⟩ := txPlan_cases s <;> rw [e] at h <;> cases h <;>
      exact .rfl
  | endPass => cases h; exact ⟨endStep_board s, endStep_attached s⟩

/-- The state a word is issued from still has the Port the worker step began with. -/
theorem samePort_of_issue {s u : State} {k : Txn} (h : workerPlan s = .issue k u) : SamePort s u := by
  obtain ⟨rfl, -⟩ | ⟨-, rfl, -⟩ := workerPlan_issue s u k h <;> exact .rfl

/-! ### The host's requests and the other agents -/

theorem samePort_noteFull (short : Nat) (s : State) : SamePort s (noteFull short s) :=
  .ite .rfl .rfl

theorem samePort_foldl_noteFallback (fs : List Fallback) (s : State) : SamePort s (fs.foldl noteFallback s) := by
  induction fs generalizing s with
  | nil => exact .rfl
  | cons f fs ih => exact SamePort.trans (t := noteFallback s f) .rfl (ih _)

theorem samePort_push (l : List Byte) (s : State) : SamePort s (push l s) := by
  unfold push
  split
  · dsimp only
    split <;> exact samePort_noteFull _ (enqueue _ l s)
  · exact .rfl

theorem samePort_setFormat (baud wlen : Nat) (par : ReqParity) (stop : Nat) (s : State) :
    SamePort s (setFormat baud wlen par stop s) :=
  .ite (samePort_foldl_noteFallback _ s) .rfl

theorem samePort_resume (s : State) : SamePort s (resume s) := by
  unfold resume
  split
  · exact .rfl
  · split <;> exact .rfl

theorem board_detach (s : State) : (detach s).board = s.board := by
  unfold detach; split <;> rfl

/-- Every request but detach keeps the Port. -/
theorem samePort_hostStep {r : Request} (hr : r ≠ .detach) (s : State) : SamePort s (hostStep r s) := by
  cases r with
  | attach available clock => exact .rfl
  | push l => exact samePort_push l s
  | openPort => exact .ite .rfl .rfl
  | setFormat b w p st => exact samePort_setFormat b w p st s
  | flush => exact .ite .rfl .rfl
  | stopTx => exact .ite .rfl .rfl
  | startTx => exact .ite .rfl .rfl
  | queryModem => exact .rfl
  | queryTxe => exact .rfl
  | suspend => exact .ite .rfl .rfl
  | resume => exact samePort_resume s
  | close => exact .ite .rfl .rfl
  | detach => exact absurd rfl hr
  | setMctrl m => exact .rfl

theorem samePort_irq (s : State) : SamePort s (irq s) := .ite .rfl .rfl

theorem samePort_poll (s : State) : SamePort s (poll s) := by
  unfold poll
  split
  · exact .ite .rfl .rfl
  · exact .rfl

theorem samePort_fire (s : State) : SamePort s (fire s) := by
  unfold fire
  split
  · exact .ite .rfl .rfl
  · exact .rfl

/-- No agent beside the worker ends a Port or changes its parameters, but for a host that detaches. -/
theorem samePort_producerStep {m : Move} (hm : m ≠ .host .detach) (s : State) : SamePort s (producerStep m s) := by
  cases m with
  | worker => exact .rfl
  | host r => exact samePort_hostStep (fun e => hm (e ▸ rfl)) s
  | irq => exact samePort_irq s
  | poll => exact samePort_poll s
  | fire => exact samePort_fire s
  | tick d => exact .rfl

/-- A new attach takes over the parameters the state carries (log entry 8). -/
theorem board_attachPort (available : Bool) (clock : Nat) (s : State) :
    (attachPort available clock s).board = s.board := by
  unfold attachPort; split <;> rfl

theorem board_detachedStep (m : Move) (s : State) : (detachedStep m s).board = s.board := by
  unfold detachedStep
  split
  · exact board_attachPort _ _ s
  · rfl

/-! ### One step of the machine -/

theorem samePort_chosen (s : State) : SamePort s s.chosen := ⟨chosen_board s, chosen_attached s⟩

/-- A step of an existing Port keeps it, unless the host detaches. -/
theorem samePort_of_step {s t : State} (h : step s = .next t) (ha : s.attached = true)
    (hm : nextMove s.env ≠ .host .detach) : SamePort s t := by
  obtain ⟨hd, -⟩ | ⟨-, -, rfl⟩ | ⟨-, -, hp⟩ | ⟨-, -, k, u, i, hp, -, hx⟩ := step_cases s t h
  · simp [hd] at ha
  · exact (samePort_chosen s).trans (samePort_producerStep hm _)
  · exact (samePort_chosen s).trans (samePort_of_silent hp)
  · exact (samePort_chosen s).trans ((samePort_of_issue hp).trans (samePort_of_exec hx))

theorem step_of_detached {s : State} (ha : s.attached = false) :
    step s = .next (detachedStep (nextMove s.env) s.chosen) := by
  simp [step, ha]

theorem step_of_detach {s : State} (ha : s.attached = true) (hm : nextMove s.env = .host .detach) :
    step s = .next (detach s.chosen) := by
  simp [step, ha, hm, producerStep, hostStep]

/-- Settles O56: a detached machine and a detaching host leave the parameters, and every other step leaves the Port as well. -/
theorem parametersNeverChange : Obligations.ParametersNeverChange := by
  intro s t h
  cases ha : s.attached with
  | false =>
    rw [step_of_detached ha] at h
    cases h
    exact ⟨board_detachedStep _ _, fun hf => by cases hf⟩
  | true =>
    by_cases hm : nextMove s.env = .host .detach
    · rw [step_of_detach ha hm] at h
      cases h
      exact ⟨board_detach _, fun _ => .inr hm⟩
    · obtain ⟨hb, hat⟩ := samePort_of_step h ha hm
      exact ⟨hb, fun _ => .inl (hat.trans ha)⟩

end Sys2Proof.Machine
end

section
/-!
The words the worker assembles: the formula of R109 spells the fields of R102 to R107, and the word it gives decodes to its own
kind's instruction, so that a planned transaction runs the instruction it was planned as.
-/

namespace Sys2Proof.Machine

/-- R109's formula for a configuration write, over all values of the fields it carries. -/
theorem writeConfigWord_eq_or (shdn st pe l : Bool) (b : BitVec 4) :
    writeConfigWord shdn st pe l b =
      0xC400#16 ||| bitAt st 6 ||| bitAt pe 5 ||| bitAt l 4 ||| b.setWidth 16 ||| bitAt shdn 12 := by
  revert shdn st pe l b
  decide

/-- R109's formula for a character, bit by bit. -/
theorem writeDataWord_eq_or (pt : Bool) (d : Byte) :
    writeDataWord false true pt d = 0x8000#16 ||| 0x0200#16 ||| bitAt pt 8 ||| d.setWidth 16 := by
  apply BitVec.eq_of_getLsbD_eq
  intro i hi
  simp only [writeDataWord, bitAt, BitVec.getLsbD_or, BitVec.getLsbD_append]
  cases pt <;> interval_cases i <;> simp

/-- R109, R113: the assembled word is the one its instruction's fields spell. -/
theorem encode_instrOf (k : Txn) : encode (instrOf k) = enc k := by
  cases k with
  | cfg f => simp [instrOf, encode, enc, writeConfigWord_eq_or, bitAt]
  | pwrdn f => exact writeConfigWord_eq_or true (stBit f) (peBit f) (lBit f) f.code
  | rd => rfl
  | txd f c => exact writeDataWord_eq_or (applyParity f c).2 (applyParity f c).1
  | deoff => rfl

theorem decodeWord_writeConfigWord (st pe l : Bool) (b : BitVec 4) :
    decodeWord (writeConfigWord false st pe l b) = .ok (.cfg st pe l b) ∧
    decodeWord (writeConfigWord true st pe l b) = .ok (.pwrdn st pe l b) := by
  revert st pe l b
  decide

/-- A character word is in no row of a configuration write, and its two fields are read back. -/
theorem decodeWord_writeDataWord (pt : Bool) (d : Byte) :
    decodeWord (writeDataWord false true pt d) = .ok (.txd pt d) := by
  have hrow : writeDataWord false true pt d &&& 0xFE00#16 = 0x8200#16 := Laws.TableRow.txd pt d
  have hconfig (m : Word) (hm : m &&& 0xFE00#16 ≠ 0x8200#16) : writeDataWord false true pt d &&& 0xFF80#16 ≠ m := by
    rintro rfl
    apply hm
    rw [BitVec.and_assoc]
    exact hrow
  have hpt : (writeDataWord false true pt d).getLsbD 8 = pt := by
    rw [writeDataWord, BitVec.getLsbD_append]
    cases pt <;> rfl
  have hd : (writeDataWord false true pt d).extractLsb' 0 8 = d := by
    exact BitVec.extractLsb'_append_eq_right
  simp only [decodeWord, hconfig 0xC400#16 (by decide), hconfig 0xD400#16 (by decide), hrow, hpt, hd, if_true, if_false]

/-- R101, R109: the assembled word decodes to its own kind's instruction. -/
theorem decodeWord_enc (k : Txn) : decodeWord (enc k) = .ok (instrOf k) := by
  rw [← encode_instrOf]
  cases k with
  | cfg f => exact (decodeWord_writeConfigWord _ _ _ _).1
  | pwrdn f => exact (decodeWord_writeConfigWord _ _ _ _).2
  | rd => decide
  | txd f c => exact decodeWord_writeDataWord _ _
  | deoff => decide

/-- Two kinds that assemble to one word stand for one instruction. -/
theorem instrOf_eq_of_enc_eq {k k' : Txn} (h : enc k = enc k') : instrOf k = instrOf k' := by
  have hdec := decodeWord_enc k
  rw [h, decodeWord_enc k'] at hdec
  exact (Except.ok.inj hdec).symm

end Sys2Proof.Machine
end

section
/-!
The circular queue under the two moves of its positions: a push behind the write position and a transmit at the read position
leave every queued slot written (R31, R78, R272).
-/

namespace Sys2Proof.Machine

/-- Two offsets below the capacity that lead to one slot are the same (R31). -/
theorem offset_eq_of_slot_eq {cap a i j : Nat} (hi : i < cap) (hj : j < cap) (h : (a + i) % cap = (a + j) % cap) : i = j :=
  Nat.ModEq.eq_of_lt_of_lt (Nat.ModEq.add_left_cancel' a h) hi hj

/-- The write position is `count` slots after the read position (R31). -/
theorem tail_add_qCount {s : State} (hh : s.head < s.board.xmitCap) (ht : s.tail < s.board.xmitCap) :
    (s.tail + qCount s) % s.board.xmitCap = s.head := by
  have hsum : s.tail + (s.head + s.board.xmitCap - s.tail) = s.head + s.board.xmitCap := by omega
  rw [qCount, Nat.add_mod_mod, hsum, Nat.add_mod_right, Nat.mod_eq_of_lt hh]

/-- The count is the one number of slots below the capacity from the read to the write position (R31). -/
theorem qCount_eq_of_slot_eq {s : State} {n : Nat} (hh : s.head < s.board.xmitCap) (ht : s.tail < s.board.xmitCap)
    (hn : n < s.board.xmitCap) (h : (s.tail + n) % s.board.xmitCap = s.head) : qCount s = n :=
  offset_eq_of_slot_eq (a := s.tail) (qCount_lt s (by omega)) hn ((tail_add_qCount hh ht).trans h.symm)

theorem qCount_of_head_eq_tail {s : State} (h : s.head = s.tail) : qCount s = 0 := by simp [qCount, h]

/-- Every queued byte was written: the invariant's clause as a predicate of its own (R31, R78). -/
def QueueWritten (s : State) : Prop := ∀ i, i < qCount s → (s.mem.read (slotOf s i)).isSome = true

/-- An empty queue has no slot that could be unwritten, wherever its positions are. -/
theorem queueWritten_of_head_eq_tail {s : State} (h : s.head = s.tail) : QueueWritten s := by
  intro i hi
  rw [qCount_of_head_eq_tail h] at hi
  cases hi

/-- The clause reads the capacity, the memory and the two positions alone. -/
theorem queueWritten_congr {s t : State} (hb : t.board = s.board) (hm : t.mem = s.mem) (hh : t.head = s.head)
    (ht : t.tail = s.tail) (hq : QueueWritten s) : QueueWritten t := by
  unfold QueueWritten qCount slotOf
  rw [hb, hm, hh, ht]
  exact hq

/-- Taking the byte at the read position leaves the others: offset `i` now was offset `i + 1` before (R147). -/
theorem queueWritten_advance {s : State} (hh : s.head < s.board.xmitCap) (ht : s.tail < s.board.xmitCap)
    (hne : qEmpty s = false) (hq : QueueWritten s) : QueueWritten { s with tail := advance 1 s.tail s } := by
  have hpos : qCount s ≠ 0 := fun h0 => by simp [(qCount_eq_zero s hh ht).1 h0] at hne
  have hlt : qCount s < s.board.xmitCap := qCount_lt s (by omega)
  have slot_succ (i : Nat) : (advance 1 s.tail s + i) % s.board.xmitCap = (s.tail + (i + 1)) % s.board.xmitCap := by
    rw [advance, Nat.mod_add_mod, Nat.add_assoc, Nat.add_comm 1 i]
  have hcount : qCount { s with tail := advance 1 s.tail s } = qCount s - 1 := by
    apply qCount_eq_of_slot_eq (s := { s with tail := advance 1 s.tail s }) hh (advance_lt 1 s.tail s (by omega))
      (show _ < s.board.xmitCap by omega)
    rw [slot_succ, Nat.sub_add_cancel (by omega)]
    exact tail_add_qCount hh ht
  intro i hi
  rw [hcount] at hi
  rw [slotOf, slot_succ]
  exact hq (i + 1) (by omega)

/-- The slot `j` past the write position is `count + j` past the read position (R31). -/
theorem slot_past_head {s : State} (hh : s.head < s.board.xmitCap) (ht : s.tail < s.board.xmitCap) (j : Nat) :
    (s.head + j) % s.board.xmitCap = (s.tail + (qCount s + j)) % s.board.xmitCap := by
  rw [← Nat.add_assoc, ← Nat.mod_add_mod (s.tail + qCount s), tail_add_qCount hh ht]

/-- As many bytes join the queue as the request queues (R272). -/
theorem qCount_enqueue {s : State} (hh : s.head < s.board.xmitCap) (ht : s.tail < s.board.xmitCap) {n : Nat}
    (l : List Byte) (hfit : n ≤ s.board.xmitCap - 1 - qCount s) : qCount (enqueue n l s) = qCount s + n := by
  have hlt : qCount s < s.board.xmitCap := qCount_lt s (by omega)
  apply qCount_eq_of_slot_eq (s := enqueue n l s) (advance_lt n s.head s (by omega)) ht
    (show _ < s.board.xmitCap by omega)
  exact (slot_past_head hh ht n).symm

/-- Queueing the leading bytes that fit writes exactly the slots that join the queue (R272). -/
theorem queueWritten_enqueue {s : State} (hh : s.head < s.board.xmitCap) (ht : s.tail < s.board.xmitCap)
    (hq : QueueWritten s) {n : Nat} {l : List Byte} (hl : n ≤ l.length) (hfit : n ≤ s.board.xmitCap - 1 - qCount s) :
    QueueWritten (enqueue n l s) := by
  have hlt : qCount s < s.board.xmitCap := qCount_lt s (by omega)
  have hlen : (l.take n).length = n := by simp [hl]
  intro i hi
  rw [qCount_enqueue hh ht l hfit] at hi
  change ((writeSlots s.board.xmitCap s.mem s.head (l.take n)).read ((s.tail + i) % s.board.xmitCap)).isSome = true
  by_cases hold : i < qCount s
  · rw [writeSlots_read_other]
    · exact hq i hold
    · intro j hj hslot
      rw [slot_past_head hh ht] at hslot
      have := offset_eq_of_slot_eq (by omega) (by omega) hslot
      omega
  · obtain ⟨j, rfl⟩ : ∃ j, i = qCount s + j := ⟨i - qCount s, by omega⟩
    rw [← slot_past_head hh ht, writeSlots_read _ _ _ _ j (by omega) (by omega), List.getElem?_eq_getElem (by omega)]
    rfl

end Sys2Proof.Machine
end

section
/-!
The invariant is kept by every step (R52, R53). One rule for a move of the worker inside an activation, one for a producer's
set-and-wake and one for the failure entry carry most steps; each transaction and each request then names the fields it changes.

`{ hi with … }` below rebuilds the invariant of an updated state from `hi`, that of the old one: the clauses that do not read an
updated field carry over as they are, and those listed are proved again.
-/

namespace Sys2Proof.Machine

/-! ### What the invariant says of the state -/

theorem boardOk_iff (p : Config.Board) :
    boardOk p = true ↔ 2 ≤ p.xmitCap ∧ 1 ≤ p.rxDrainMax ∧ 1 ≤ p.sinkAttempts ∧
      (codeOf p p.defaultFormat.baud).isSome = true := by
  simp [boardOk, and_assoc]

theorem preempts_eq_false_iff (p : PendingFlags) : p.preempts = false ↔ p.stop = false ∧ p.susp = false := by
  simp [PendingFlags.preempts]

/-- The worker is in a pass of servicing: in a drain or in the transmit loop (R24). -/
def Phase.servicing : Phase → Prop
  | .drain _ | .tx => True
  | .exited | .parked | .top | .endPass => False

theorem Inv.drainMax_pos {s : State} (hi : Inv s) : 0 < s.board.rxDrainMax := by
  obtain ⟨-, hpos, -⟩ := (boardOk_iff s.board).1 hi.paramsOk
  exact hpos

theorem Inv.line_ne_shutdown {s : State} (hi : Inv s) (hs : s.phase ≠ .exited) : s.line ≠ .shutdown :=
  fun h => hs (hi.exitedIffShutdown.2 h)

theorem Inv.phase_ne_exited {s : State} (hi : Inv s) (hl : s.line ≠ .shutdown) : s.phase ≠ .exited :=
  fun h => hl (hi.exitedIffShutdown.1 h)

/-- Neither a starting nor a suspended line is serviced (R236, R239). -/
theorem Inv.line_of_servicing {s : State} (hi : Inv s) (hp : s.phase.servicing) :
    s.line ≠ .starting ∧ s.line ≠ .suspended := by
  have quiet (h : s.phase = .parked ∨ s.phase = .top ∨ s.phase = .endPass) : False := by
    obtain h | h | h := h <;> rw [h] at hp <;> exact hp
  constructor <;> intro hl
  · obtain ⟨-, -, -, h⟩ := hi.startingCommits hl
    exact quiet h
  · obtain ⟨-, -, h⟩ := hi.suspendedQuiet hl
    exact quiet h

theorem Inv.rxbuf_nil {s : State} (hi : Inv s) (hp : s.phase = .top ∨ s.phase = .tx ∨ s.phase = .parked ∨ s.phase = .exited) :
    s.rxbuf = [] := by
  have h := hi.rxBufBound
  obtain hp | hp | hp | hp := hp <;> simpa [RxBufOk, hp] using h

theorem Inv.rxbuf_of_drain {s : State} (hi : Inv s) {k : Nat} (hp : s.phase = .drain k) :
    s.rxbuf.length = k ∧ k < s.board.rxDrainMax := by
  simpa [RxBufOk, hp] using hi.rxBufBound

/-- At `Top`, in a drain and in the transmit loop the buffer holds fewer characters than a drain may collect (R47). -/
theorem Inv.rxbuf_short {s : State} (hi : Inv s) (hp : s.phase = .top ∨ s.phase.servicing) :
    s.rxbuf.length < s.board.rxDrainMax := by
  have hpos := hi.drainMax_pos
  cases h : s.phase with
  | drain k =>
    obtain ⟨hlen, hk⟩ := hi.rxbuf_of_drain h
    omega
  | top => simpa [hi.rxbuf_nil (.inl h)] using hpos
  | tx => simpa [hi.rxbuf_nil (.inr (.inl h))] using hpos
  | exited => simp [h, Phase.servicing] at hp
  | parked => simp [h, Phase.servicing] at hp
  | endPass => simp [h, Phase.servicing] at hp

/-! ### Steps on fields the invariant does not read -/

theorem inv_chosen {s : State} (hi : Inv s) : Inv s.chosen := { hi with }

theorem inv_reply {s : State} (r : Reply) (hi : Inv s) : Inv (reply r s) := { hi with }

theorem inv_exchanged {s : State} (w : Word) (hi : Inv s) : Inv (exchanged w s) := { hi with }

theorem inv_decodeStatus {s : State} (r : Word) (hi : Inv s) : Inv (decodeStatus r s) := { hi with }

theorem inv_decodeData {s : State} (r : Word) (hi : Inv s) : Inv (decodeData r s) := { hi with }

theorem inv_refuse {s : State} (q : RequestName) (hi : Inv s) : Inv (refuse q s) := { hi with }

/-! ### Shared moves -/

/-- A delivery empties the receive buffer; what else it changes the invariant does not read (R151). -/
theorem deliver_eq (s : State) : ∃ c l e, deliver s = { s with rxbuf := [], ctr := c, log := l, env := e } := by
  refine ⟨(deliver s).ctr, (deliver s).log, (deliver s).env, ?_⟩
  rw [← deliver_rxbuf s]
  exact deliver_frame s

/-- A capture outside a drain leaves an empty receive buffer empty, and of what the invariant reads it touches one flag (R143). -/
theorem capture_direct_eq (r : Word) {s : State} (h : s.rxbuf = []) :
    ∃ b c l e, capture r false s = { s with pend := { s.pend with rxp := b }, ctr := c, log := l, env := e } := by
  have hrx : (capture r false s).rxbuf = s.rxbuf := by rw [capture_rxbuf]; simp [h]
  have hpend := capture_pend r false s
  refine ⟨s.pend.rxp || (respR r && !false), (capture r false s).ctr, (capture r false s).log, (capture r false s).env, ?_⟩
  rw [← hpend]
  exact (capture_frame r false s).trans (by rw [hrx])

theorem inv_capture_direct {s : State} (r : Word) (hi : Inv s) (hrx : s.rxbuf = []) (hl : s.line ≠ .shutdown) :
    Inv (capture r false s) := by
  obtain ⟨b, c, l, e, h⟩ := capture_direct_eq r hrx
  rw [h]
  exact { hi with shutdownQuiet := fun h => absurd h hl }

theorem goto_of_phase {s : State} {p : Phase} (h : s.phase = p) : goto p s = s := by
  subst h; rfl

/-- A move of the worker to another phase of its activation, or out of it, with what the receive buffer then holds. -/
theorem inv_move {s : State} (hi : Inv s) {p : Phase} {l : List RxChar} (hs : s.phase ≠ .exited) (hp : p ≠ .exited)
    (hserv : p.servicing → s.line ≠ .starting ∧ s.line ≠ .suspended)
    (hstop : s.pend.stop = true → s.wake = true ∨ p = .top)
    (hpark : p = .parked → s.de = .on → qEmpty s = true → s.line = .active →
      s.os ≠ none ∨ s.pend.dis = true ∨ s.wake = true)
    (hrx : RxBufOk { s with phase := p, rxbuf := l }) : Inv { s with phase := p, rxbuf := l } :=
  have quiet (h : s.line = .starting ∨ s.line = .suspended) : p = .parked ∨ p = .top ∨ p = .endPass := by
    cases p <;> simp_all [Phase.servicing]
  { hi with
    enableReleased := fun hde hq hl => by
      by_cases h : p = .parked
      · exact .inr (hpark h hde hq hl)
      · exact .inl h
    exitedIffShutdown := iff_of_false hp (hi.line_ne_shutdown hs)
    startingCommits := fun hl =>
      have ⟨hcfg, hos, hdis, _⟩ := hi.startingCommits hl
      ⟨hcfg, hos, hdis, quiet (.inl hl)⟩
    stopSeen := hstop
    rxBufBound := hrx
    suspendedQuiet := fun hl =>
      have ⟨hos, hdis, _⟩ := hi.suspendedQuiet hl
      ⟨hos, hdis, quiet (.inr hl)⟩ }

theorem inv_toTop {s : State} (hi : Inv s) (hs : s.phase ≠ .exited) : Inv { s with phase := .top, rxbuf := [] } :=
  inv_move hi hs nofun nofun (fun _ => .inr rfl) nofun rfl

theorem inv_toEnd {s : State} (hi : Inv s) (hs : s.phase ≠ .exited) (hstop : s.pend.stop = false)
    (hrx : s.rxbuf.length < s.board.rxDrainMax) : Inv { s with phase := .endPass } :=
  inv_move (l := s.rxbuf) hi hs nofun nofun (fun h => by simp [hstop] at h) nofun hrx

/-- The next drain step or the transmit loop, entered from a line in service with no stop requested (R241). -/
theorem inv_toServicing {s : State} (hi : Inv s) {p : Phase} {l : List RxChar} (hs : s.phase ≠ .exited) (hp : p.servicing)
    (hline : s.line ≠ .starting ∧ s.line ≠ .suspended) (hstop : s.pend.stop = false)
    (hrx : RxBufOk { s with phase := p, rxbuf := l }) : Inv { s with phase := p, rxbuf := l } :=
  inv_move hi hs (fun h => by rw [h] at hp; exact hp) (fun _ => hline) (fun h => by simp [hstop] at h)
    (fun h => by rw [h] at hp; exact hp.elim) hrx

/-- A producer's set-and-wake on a line that is up: it may set any flag but the two that say a disable is due and a suspend is
asked for, and it takes no commit back (R38, R81). -/
theorem inv_setAndWake {s : State} (hi : Inv s) (hl : s.line ≠ .shutdown) {f : PendingFlags → PendingFlags}
    (hdis : (f s.pend).dis = s.pend.dis) (hsusp : (f s.pend).susp = s.pend.susp)
    (hcfg : s.pend.cfg = true → (f s.pend).cfg = true) : Inv (setAndWake f s) :=
  { hi with
    disableDue := fun h => hi.disableDue (hdis ▸ h)
    enableReleased := fun _ _ _ => .inr (.inr (.inr rfl))
    startingCommits := fun h =>
      have ⟨hc, hos, hd, hp⟩ := hi.startingCommits h
      ⟨hcfg hc, hos, hdis.trans hd, hp⟩
    suspendIffSuspending := by
      rw [setAndWake_pend, hsusp]
      exact hi.suspendIffSuspending
    stopSeen := fun _ => .inl rfl
    shutdownQuiet := fun h => absurd h hl
    suspendedQuiet := fun h =>
      have ⟨hos, hd, hp⟩ := hi.suspendedQuiet h
      ⟨hos, hdis.trans hd, hp⟩ }

/-- An exchange keeps the invariant if what follows each of its answers restores it. -/
theorem inv_exchange {w : Word} {onErr : State → State} {onOk : Word → State → State} {s : State}
    (hErr : Inv (onErr (exchanged w s))) (hOk : ∀ r, Inv (onOk r (exchanged w s))) : Inv (exchange w onErr onOk s) := by
  obtain ⟨-, e⟩ | ⟨r, -, e⟩ := exchange_cases w onErr onOk s
  · rw [e]; exact hErr
  · rw [e]; exact hOk r

/-- The failure entry is a move to `End` once the flags it sets again are set (R140, R242). -/
theorem inv_failExchange {s : State} (w : Word) {again : PendingFlags → PendingFlags} (hi : Inv (setPend again s))
    (hs : s.phase ≠ .exited) (hstop : (again s.pend).stop = false) (hrx : s.rxbuf.length < s.board.rxDrainMax) :
    Inv (failExchange w again s) :=
  { inv_toEnd hi hs hstop hrx with }

/-! ### The transactions -/

/-- The line after an answered commit (R146): what was `Starting` is `Active`, every other state stays. -/
def LineState.committed (l : LineState) : LineState := if l = .starting then .active else l

theorem LineState.committed_ne_starting (l : LineState) : l.committed ≠ .starting := by cases l <;> decide

theorem LineState.committed_eq_shutdown_iff (l : LineState) : l.committed = .shutdown ↔ l = .shutdown := by
  cases l <;> decide

theorem LineState.committed_eq_suspending_iff (l : LineState) : l.committed = .suspending ↔ l = .suspending := by
  cases l <;> decide

theorem LineState.committed_eq_suspended_iff (l : LineState) : l.committed = .suspended ↔ l = .suspended := by
  cases l <;> decide

/-- A commit keeps the line among the states with armed sources, or out of them (R292). -/
theorem LineState.committed_up_iff (l : LineState) :
    l.committed = .starting ∨ l.committed = .active ∨ l.committed = .suspending ↔
      l = .starting ∨ l = .active ∨ l = .suspending := by
  cases l <;> decide

theorem cfgOk_eq (f : Format) (r : Word) (s : State) :
    cfgOk f r s =
      { s with fmt := f, hold := holdNs f, txe := respT r, rxa := respR r
               pend := { s.pend with rxp := s.pend.rxp || respR r }, line := s.line.committed, phase := .top } := rfl

/-- CFG answered at `Top` (R146): the invariant held while the commit was pending, and the commit is what `Starting` waits for. -/
theorem inv_cfgOk {s : State} (r : Word) (hi : Inv (setPend (fun p => { p with cfg := true }) s)) (hp : s.phase = .top) :
    Inv (cfgOk s.stg r s) := by
  have hup : s.line ≠ .shutdown := hi.line_ne_shutdown (by simp [hp])
  have hup' : s.line.committed ≠ .shutdown := mt s.line.committed_eq_shutdown_iff.1 hup
  rw [cfgOk_eq]
  exact { hi with
    activeFormatOk := hi.stagedFormatOk
    holdFresh := rfl
    enableReleased := fun _ _ _ => .inl nofun
    exitedIffShutdown := iff_of_false nofun hup'
    startingCommits := fun hl => absurd hl s.line.committed_ne_starting
    suspendIffSuspending := hi.suspendIffSuspending.trans s.line.committed_eq_suspending_iff.symm
    armedIff := hi.armedIff.trans s.line.committed_up_iff.symm
    stopSeen := fun _ => .inr rfl
    rxBufBound := hi.rxbuf_nil (.inl hp)
    shutdownQuiet := fun hl => absurd hl hup'
    suspendedQuiet := fun hl =>
      have ⟨hos, hdis, _⟩ := hi.suspendedQuiet (s.line.committed_eq_suspended_iff.1 hl)
      ⟨hos, hdis, .inr (.inl rfl)⟩
    detachedShutdown := fun ha => absurd (hi.detachedShutdown ha) hup }

/-- CFG, issued at `Top` with no stop requested (R146). -/
theorem inv_commit {s : State} (w : Word) (hi : Inv s) (hp : s.phase = .top) (hstop : s.pend.stop = false) :
    Inv (commit w s) := by
  have hs : s.phase ≠ .exited := by simp [hp]
  have pending : Inv (setPend (fun p => { p with cfg := true }) s) := { hi with
    startingCommits := fun hl =>
      have ⟨_, hrest⟩ := hi.startingCommits hl
      ⟨rfl, hrest⟩
    shutdownQuiet := fun hl => absurd hl (hi.line_ne_shutdown hs) }
  apply inv_exchange
  · exact inv_failExchange w (inv_exchanged w pending) hs hstop (hi.rxbuf_short (.inl hp))
  · exact fun r => inv_cfgOk r (s := exchanged w (setPend _ s)) (inv_exchanged w pending) hp

/-- The end of the stop sequence leaves a shut-down Port, whatever was pending (R237). -/
theorem inv_stopped {s : State} (hi : Inv s) (hp : s.phase = .top) : Inv (stopped s) :=
  { hi with
    tailInRange := hi.headInRange
    queueWritten := queueWritten_of_head_eq_tail (s := stopped s) rfl
    oneShotAtDeadline := nofun
    disableDue := nofun
    enableReleased := nofun
    exitedIffShutdown := iff_of_true rfl rfl
    startingCommits := nofun
    suspendIffSuspending := iff_of_false nofun nofun
    armedIff := iff_of_false nofun nofun
    stopSeen := nofun
    rxBufBound := hi.rxbuf_nil (.inl hp)
    shutdownQuiet := fun _ => ⟨rfl, rfl, rfl, rfl⟩
    suspendedQuiet := nofun
    detachedShutdown := fun _ => rfl }

theorem inv_stopFailed {s : State} (w : Word) (hi : Inv s) : Inv (stopFailed w s) := { hi with }

/-- PWRDN for a requested stop, issued at `Top` (R237). -/
theorem inv_stopSequence {s : State} (w : Word) (hi : Inv s) (hp : s.phase = .top) : Inv (stopSequence w s) := by
  apply inv_exchange
  · apply inv_stopped
    · exact inv_stopFailed w (inv_exchanged w hi)
    · exact hp
  · intro r
    apply inv_stopped
    · exact inv_decodeStatus r (inv_exchanged w hi)
    · exact hp

theorem suspendOk_eq (r : Word) (s : State) :
    suspendOk r s =
      { s with txe := respT r, rxa := respR r, pend := { s.pend with susp := false, dis := false }, os := none
               de := .unknown, armed := false, line := .suspended, phase := .endPass } := rfl

/-- PWRDN answered in the suspend step (R238). -/
theorem inv_suspendOk {s : State} (r : Word) (hi : Inv s) (hp : s.phase = .top) (hstop : s.pend.stop = false) :
    Inv (suspendOk r s) := by
  have hup : s.line ≠ .shutdown := hi.line_ne_shutdown (by simp [hp])
  rw [suspendOk_eq]
  exact { hi with
    oneShotAtDeadline := nofun
    disableDue := nofun
    enableReleased := nofun
    exitedIffShutdown := iff_of_false nofun nofun
    startingCommits := nofun
    suspendIffSuspending := iff_of_false nofun nofun
    armedIff := iff_of_false nofun nofun
    stopSeen := fun h => absurd (hstop.symm.trans h) Bool.false_ne_true
    rxBufBound := hi.rxbuf_short (.inl hp)
    shutdownQuiet := nofun
    suspendedQuiet := fun _ => ⟨rfl, rfl, .inr (.inr rfl)⟩
    detachedShutdown := fun ha => absurd (hi.detachedShutdown ha) hup }

/-- PWRDN for a requested suspend, issued at `Top` with no stop requested (R238). -/
theorem inv_suspendStep {s : State} (w : Word) (hi : Inv s) (hp : s.phase = .top) (hstop : s.pend.stop = false)
    (hsusp : s.pend.susp = true) : Inv (suspendStep w s) := by
  have hs : s.phase ≠ .exited := by simp [hp]
  have pending : Inv (setPend (fun p => { p with susp := true }) s) := { hi with
    suspendIffSuspending := iff_of_true rfl (hi.suspendIffSuspending.1 hsusp)
    shutdownQuiet := fun hl => absurd hl (hi.line_ne_shutdown hs) }
  apply inv_exchange
  · exact inv_failExchange w (inv_exchanged w pending) hs hstop (hi.rxbuf_short (.inl hp))
  · exact fun r => inv_suspendOk r (inv_exchanged w hi) hp hstop

/-- Where a drain goes after its response (R241): it ends, it goes on, or it ends at the bound and asks for another. -/
theorem drainNext_cases {s : State} {k : Nat} (r : Word) (hp : s.phase = .drain k) :
    (respR r = false ∧ drainNext r s = goto .tx (deliver s)) ∨
    (respR r = true ∧ k + 1 < s.board.rxDrainMax ∧ drainNext r s = goto (.drain (k + 1)) s) ∨
    (respR r = true ∧ drainNext r s = goto .tx (deliver (setPend (fun p => { p with rxp := true }) s))) := by
  unfold drainNext
  rw [hp]
  cases hr : respR r with
  | false => exact .inl ⟨rfl, rfl⟩
  | true =>
    by_cases hk : k + 1 < s.board.rxDrainMax
    · exact .inr (.inl ⟨rfl, hk, by simp [hk]⟩)
    · exact .inr (.inr ⟨rfl, by simp [hk]⟩)

/-- A drain that is not preempted takes in its response and goes where R241 says. -/
theorem inv_drainNext_capture {s : State} {k : Nat} (r : Word) (hi : Inv s) (hp : s.phase = .drain k)
    (hstop : s.pend.stop = false) : Inv (drainNext r (capture r true s)) := by
  have hs : s.phase ≠ .exited := by simp [hp]
  have hline := hi.line_of_servicing (by simp [hp, Phase.servicing])
  have hup : s.line ≠ .shutdown := hi.line_ne_shutdown hs
  obtain ⟨hlen, -⟩ := hi.rxbuf_of_drain hp
  have toTx : Inv { s with phase := .tx, rxbuf := [] } := inv_toServicing hi hs trivial hline hstop rfl
  obtain ⟨hr, e⟩ | ⟨hr, hk, e⟩ | ⟨hr, e⟩ := drainNext_cases (s := capture r true s) r (by simpa using hp) <;> rw [e]
  · rw [capture_quiet _ _ _ hr]
    obtain ⟨c, l, n, hd⟩ := deliver_eq s
    rw [hd]
    exact { toTx with }
  · rw [capture_drain _ _ hr, collect_eq]
    rw [capture_board] at hk
    have onward (x : RxChar) : Inv { s with phase := .drain (k + 1), rxbuf := s.rxbuf ++ [x] } :=
      inv_toServicing hi hs trivial hline hstop ⟨by simp [hlen], hk⟩
    exact { onward _ with }
  · rw [capture_drain _ _ hr, collect_eq]
    obtain ⟨c, l, n, hd⟩ := deliver_eq (setPend (fun p => { p with rxp := true }) (collect r s))
    rw [collect_eq] at hd
    rw [hd]
    exact { toTx with shutdownQuiet := fun hl => absurd hl hup }

/-- A transaction that asks for another pass on failure: the flag it then sets is one the invariant does not read (R242). -/
theorem inv_failExchange_txn {s : State} (w : Word) (hi : Inv s) (hp : s.phase.servicing) (hstop : s.pend.stop = false) :
    Inv (failExchange w (fun p => { p with txn := true }) (exchanged w s)) := by
  have hs : s.phase ≠ .exited := fun h => by rw [h] at hp; exact hp
  have asked : Inv (setPend (fun p => { p with txn := true }) s) := { hi with
    shutdownQuiet := fun hl => absurd hl (hi.line_ne_shutdown hs) }
  exact inv_failExchange w (inv_exchanged w asked) hs hstop (hi.rxbuf_short (.inr hp))

/-- RD, issued in a drain that is not preempted (R145, R241). -/
theorem inv_readData {s : State} {k : Nat} (w : Word) (hi : Inv s) (hp : s.phase = .drain k) (hstop : s.pend.stop = false) :
    Inv (readData w s) := by
  apply inv_exchange
  · exact inv_failExchange_txn w hi (by simp [hp, Phase.servicing]) hstop
  · exact fun r => inv_drainNext_capture r (inv_decodeData r (inv_decodeStatus r (inv_exchanged w hi))) hp hstop

/-- What a transmit records before its response is taken in (R147, R204, R209): the byte is off the queue, the enable is on, no
disable is on its way, and the deadline is extended. -/
def sent (s : State) : State :=
  recordTx s.now
    (cancelDisable { s with tail := advance 1 s.tail s, ctr := { s.ctr with ntx := s.ctr.ntx + 1 }, de := .on })

theorem txdOk_eq (r : Word) (s : State) :
    txdOk r s = goto .tx (capture r false (decodeData r (decodeStatus r (sent s)))) := rfl

theorem inv_sent {s : State} (hi : Inv s) (hp : s.phase = .tx) (hne : qEmpty s = false) : Inv (sent s) :=
  have ⟨hstart, hsusp⟩ := hi.line_of_servicing (by simp [hp, Phase.servicing])
  { hi with
    tailInRange := advance_lt 1 s.tail s (Nat.zero_lt_of_lt hi.tailInRange)
    queueWritten := queueWritten_congr rfl rfl rfl rfl
      (queueWritten_advance hi.headInRange hi.tailInRange hne hi.queueWritten)
    oneShotAtDeadline := nofun
    disableDue := nofun
    enableReleased := fun _ _ _ => .inl (by simp [sent, hp])
    startingCommits := fun hl => absurd hl hstart
    shutdownQuiet := fun hl => absurd hl (hi.line_ne_shutdown (by simp [hp]))
    suspendedQuiet := fun hl => absurd hl hsusp }

/-- TXD answered in the transmit loop (R147). -/
theorem inv_txdOk {s : State} (r : Word) (hi : Inv s) (hp : s.phase = .tx) (hne : qEmpty s = false) : Inv (txdOk r s) := by
  have hup : s.line ≠ .shutdown := hi.line_ne_shutdown (by simp [hp])
  have hrx : s.rxbuf = [] := hi.rxbuf_nil (.inr (.inl hp))
  rw [txdOk_eq, goto_of_phase (by simpa [sent] using hp)]
  exact inv_capture_direct r (inv_decodeData r (inv_decodeStatus r (inv_sent hi hp hne))) hrx hup

/-- TXD, issued in the transmit loop with a byte queued (R147). -/
theorem inv_transmit {s : State} (w : Word) (hi : Inv s) (hp : s.phase = .tx) (hstop : s.pend.stop = false)
    (hne : qEmpty s = false) : Inv (transmit w s) := by
  apply inv_exchange
  · exact inv_failExchange_txn w hi (by simp [hp, Phase.servicing]) hstop
  · exact fun r => inv_txdOk r (inv_exchanged w hi) hp hne

/-- At `Top`, a disable taken up is no longer pending; it was none of a line that is starting, suspended or shut down (R208). -/
theorem inv_takeDisable {s : State} (hi : Inv s) (hp : s.phase = .top) :
    Inv (setPend (fun p => { p with dis := false }) s) :=
  { hi with
    disableDue := nofun
    enableReleased := fun _ _ _ => .inl (by simp [hp])
    startingCommits := fun hl =>
      have ⟨hcfg, hos, _, hq⟩ := hi.startingCommits hl
      ⟨hcfg, hos, rfl, hq⟩
    shutdownQuiet := fun hl => absurd hl (hi.line_ne_shutdown (by simp [hp]))
    suspendedQuiet := fun hl =>
      have ⟨hos, _, hq⟩ := hi.suspendedQuiet hl
      ⟨hos, rfl, hq⟩ }

/-- Where a disable is pending the line is neither starting nor suspended (R354, R238). -/
theorem Inv.line_of_disable {s : State} (hi : Inv s) (hdis : s.pend.dis = true) :
    s.line ≠ .starting ∧ s.line ≠ .suspended := by
  constructor <;> intro hl
  · obtain ⟨-, -, h, -⟩ := hi.startingCommits hl
    simp [h] at hdis
  · obtain ⟨-, h, -⟩ := hi.suspendedQuiet hl
    simp [h] at hdis

/-- DEOFF answered at `Top` (R148). -/
theorem inv_deoffOk {s : State} (r : Word) (hi : Inv s) (hp : s.phase = .top) : Inv (deoffOk r s) := by
  have dropped : Inv { s with de := .off, outcome := some .applied } := { hi with enableReleased := nofun }
  unfold deoffOk
  rw [goto_of_phase (by simpa using hp)]
  exact inv_capture_direct r (inv_decodeData r (inv_decodeStatus r dropped)) (hi.rxbuf_nil (.inl hp))
    (hi.line_ne_shutdown (by simp [hp]))

/-- DEOFF, issued at `Top` past the deadline with the disable's flag taken (R148, R208). -/
theorem inv_dropEnable {s : State} (w : Word) (hi : Inv s) (hp : s.phase = .top) (hstop : s.pend.stop = false)
    (hdis : s.pend.dis = true) : Inv (dropEnable w (setPend (fun p => { p with dis := false }) s)) := by
  have hs : s.phase ≠ .exited := by simp [hp]
  obtain ⟨hstart, hsusp⟩ := hi.line_of_disable hdis
  have pending : Inv (setPend (fun p => { p with dis := true }) s) := { hi with
    disableDue := fun _ => hi.disableDue hdis
    enableReleased := fun _ _ _ => .inr (.inr (.inl rfl))
    startingCommits := fun hl => absurd hl hstart
    shutdownQuiet := fun hl => absurd hl (hi.line_ne_shutdown hs)
    suspendedQuiet := fun hl => absurd hl hsusp }
  apply inv_exchange
  · exact inv_failExchange w (inv_exchanged w pending) hs hstop (hi.rxbuf_short (.inl hp))
  · exact fun r => inv_deoffOk r (inv_exchanged w (inv_takeDisable hi hp)) hp

/-! ### The worker -/

/-- A plan the worker may carry out: it ends in a state that meets the invariant, by itself or by its transaction, and it never
reads a slot without a value. -/
def Plan.KeepsInv : Plan → Prop
  | .silent t => Inv t
  | .issue k u => ∃ t, exec (instrOf k) u = .next t ∧ Inv t
  | .noByte => False

/-- Parked with a wake: a new activation begins (R232). -/
theorem inv_takeActivation {s : State} (hi : Inv s) (hp : s.phase = .parked) : Inv (takeActivation s) :=
  have hs : s.phase ≠ .exited := by simp [hp]
  { inv_toTop hi hs with
    enableReleased := fun _ _ _ => .inl nofun
    stopSeen := fun _ => .inr rfl
    rxBufBound := hi.rxbuf_nil (.inr (.inr (.inl hp)))
    shutdownQuiet := fun hl => absurd hl (hi.line_ne_shutdown hs) }

/-- The disable evaluation, with a disable pending and no stop requested (R208). -/
theorem keepsInv_disableEvaluation {s : State} (hi : Inv s) (hp : s.phase = .top) (hstop : s.pend.stop = false)
    (hdis : s.pend.dis = true) : (disableEvaluation s).KeepsInv := by
  have hs : s.phase ≠ .exited := by simp [hp]
  have hup : s.line ≠ .shutdown := hi.line_ne_shutdown hs
  obtain ⟨hstart, hsusp⟩ := hi.line_of_disable hdis
  have taken : Inv { setPend (fun p => { p with dis := false }) s with phase := .top, rxbuf := [] } :=
    inv_toTop (inv_takeDisable hi hp) hs
  have hrx : s.rxbuf = [] := hi.rxbuf_nil (.inl hp)
  obtain ⟨e, -⟩ | ⟨e, -⟩ | ⟨e, -⟩ | ⟨e, -⟩ := disableEvaluation_cases s _ rfl <;> rw [e]
  · exact { taken with
      oneShotAtDeadline := nofun
      enableReleased := fun _ _ _ => .inl nofun
      startingCommits := fun hl => absurd hl hstart
      rxBufBound := hrx
      shutdownQuiet := fun hl => absurd hl hup
      suspendedQuiet := fun hl => absurd hl hsusp }
  · exact { taken with rxBufBound := hrx }
  · exact { taken with
      oneShotAtDeadline := fun _ ht => (Option.some.inj ht).symm
      enableReleased := fun _ _ _ => .inl nofun
      startingCommits := fun hl => absurd hl hstart
      rxBufBound := hrx
      shutdownQuiet := fun hl => absurd hl hup
      suspendedQuiet := fun hl => absurd hl hsusp }
  · exact ⟨_, rfl, inv_dropEnable _ hi hp hstop hdis⟩

/-- Start of servicing on an active line (R240). -/
theorem inv_startService {s : State} (hi : Inv s) (hp : s.phase = .top) (hstop : s.pend.stop = false)
    (hl : s.line = .active) : Inv (startService s) := by
  have hs : s.phase ≠ .exited := by simp [hp]
  have moved : Inv { s with phase := .drain 0 } :=
    inv_toServicing (l := s.rxbuf) hi hs trivial (by simp [hl]) hstop ⟨by simp [hi.rxbuf_nil (.inl hp)], hi.drainMax_pos⟩
  have htail : (startService s).tail < s.board.xmitCap := by
    rw [startService_tail]
    split
    · exact hi.headInRange
    · exact hi.tailInRange
  have hqueue : QueueWritten (startService s) := by
    cases hf : s.pend.fls with
    | true => exact queueWritten_of_head_eq_tail (by simp [hf])
    | false => exact queueWritten_congr (s := s) rfl rfl rfl (by simp [hf]) hi.queueWritten
  exact { moved with
    tailInRange := htail
    queueWritten := hqueue
    enableReleased := fun _ _ _ => .inl nofun
    shutdownQuiet := fun h => absurd h (hi.line_ne_shutdown hs) }

/-- `Top` (R234, R236): each item of the priority order. -/
theorem keepsInv_topPlan {s : State} (hi : Inv s) (hp : s.phase = .top) : (topPlan s).KeepsInv := by
  have hs : s.phase ≠ .exited := by simp [hp]
  obtain ⟨e, hreq⟩ | ⟨hstop, -, ⟨e, -⟩ | ⟨e, -, hdis⟩ | ⟨e, -⟩ | ⟨e, hl, -⟩ | ⟨e, -⟩⟩ := topPlan_cases s <;> rw [e]
  case inl =>
    refine ⟨_, rfl, ?_⟩
    split
    next => exact inv_stopSequence _ hi hp
    next hstop =>
      rw [Bool.not_eq_true] at hstop
      have hsusp : s.pend.susp = true := hreq.resolve_left (by simp [hstop])
      rw [if_pos hsusp]
      exact inv_suspendStep _ hi hp hstop hsusp
  case inr.inr.inl => exact keepsInv_disableEvaluation hi hp hstop hdis
  case inr.inr.inr.inl => exact ⟨_, rfl, inv_commit _ hi hp hstop⟩
  case inr.inr.inr.inr.inl => exact inv_startService hi hp hstop hl
  all_goals exact inv_toEnd hi hs hstop (hi.rxbuf_short (.inl hp))

/-- `Drain(k)` (R241). -/
theorem keepsInv_drainPlan {s : State} {k : Nat} (hi : Inv s) (hp : s.phase = .drain k) : (drainPlan s).KeepsInv := by
  obtain ⟨e, -⟩ | ⟨e, hpre⟩ := drainPlan_cases s <;> rw [e]
  · obtain ⟨c, l, n, hd⟩ := deliver_eq s
    rw [hd]
    exact { inv_toTop hi (by simp [hp]) with }
  · obtain ⟨hstop, -⟩ := (preempts_eq_false_iff s.pend).1 hpre
    exact ⟨_, rfl, inv_readData _ hi hp hstop⟩

/-- `Tx` (R243). The byte at the read position was written, because the queue is not empty (R31, R78). -/
theorem keepsInv_txPlan {s : State} (hi : Inv s) (hp : s.phase = .tx) : (txPlan s).KeepsInv := by
  have hs : s.phase ≠ .exited := by simp [hp]
  have hrx : s.rxbuf = [] := hi.rxbuf_nil (.inr (.inl hp))
  obtain ⟨e, -⟩ | ⟨hpre, ⟨e, -⟩ | ⟨hne, -, -, ⟨c, -, e⟩ | ⟨hnone, -⟩⟩⟩ := txPlan_cases s
  · rw [e]
    exact { inv_toTop hi hs with rxBufBound := hrx }
  · obtain ⟨hstop, -⟩ := (preempts_eq_false_iff s.pend).1 hpre
    rw [e]
    exact inv_toEnd hi hs hstop (by simpa [hrx] using hi.drainMax_pos)
  · obtain ⟨hstop, -⟩ := (preempts_eq_false_iff s.pend).1 hpre
    rw [e]
    exact ⟨_, rfl, inv_transmit _ hi hp hstop hne⟩
  · have hpos : 0 < qCount s := Nat.pos_of_ne_zero fun h0 => by
      simp [(qCount_eq_zero s hi.headInRange hi.tailInRange).1 h0] at hne
    have hread := hi.queueWritten 0 hpos
    rw [slotOf, Nat.add_zero, Nat.mod_eq_of_lt hi.tailInRange] at hread
    rw [readTail] at hnone
    simp [hnone] at hread

theorem inv_deliver_endPass {s : State} (hi : Inv s) (hp : s.phase = .endPass) : Inv (deliver s) := by
  obtain ⟨c, l, e, hd⟩ := deliver_eq s
  rw [hd]
  exact { hi with rxBufBound := by simpa [RxBufOk, hp] using hi.drainMax_pos }

theorem inv_armCheck {s : State} (hi : Inv s) : Inv (armCheck s) := by
  obtain ⟨e, -, -, -, -, hl⟩ | ⟨e, -⟩ := armCheck_cases s <;> rw [e]
  · exact { hi with
      oneShotAtDeadline := fun _ ht => (Option.some.inj ht).symm
      enableReleased := fun _ _ _ => .inr (.inl nofun)
      startingCommits := fun h => absurd (h.symm.trans hl) nofun
      shutdownQuiet := fun h => absurd (h.symm.trans hl) nofun
      suspendedQuiet := fun h => absurd (h.symm.trans hl) nofun }
  · exact hi

/-- Past the arming an enabled idle line has something to release it: the one-shot, or a pending disable (R53, R206). -/
theorem armCheck_releases {s : State} (hde : (armCheck s).de = .on) (hq : qEmpty (armCheck s) = true)
    (hl : (armCheck s).line = .active) : (armCheck s).os ≠ none ∨ (armCheck s).pend.dis = true := by
  obtain ⟨e, -⟩ | ⟨e, hno⟩ := armCheck_cases s
  · exact .inl (by simp [e])
  · rw [e] at hde hq hl ⊢
    by_contra h
    obtain ⟨hos, hdis⟩ := not_or.1 h
    exact hno ⟨hq, by simp [hde], not_not.1 hos, by simpa using hdis, hl⟩

/-- `End` (R244, R206). -/
theorem inv_endStep {s : State} (hi : Inv s) (hp : s.phase = .endPass) : Inv (endStep s) := by
  have hu : Inv (armCheck (deliver s)) := inv_armCheck (inv_deliver_endPass hi hp)
  have hs : (armCheck (deliver s)).phase ≠ .exited := by simp [hp]
  have hrx : (armCheck (deliver s)).rxbuf = [] := by simp
  obtain ⟨-, e⟩ | ⟨-, e⟩ := endStep_cases s <;> rw [e]
  · exact { inv_toTop hu hs with rxBufBound := hrx }
  · have hstop (h : (armCheck (deliver s)).pend.stop = true) :
        (armCheck (deliver s)).wake = true ∨ Phase.parked = .top :=
      .inl ((hu.stopSeen h).resolve_right (by simp [hp]))
    exact inv_move (l := (armCheck (deliver s)).rxbuf) hu hs nofun nofun hstop
      (fun _ hde hq hl => (armCheck_releases hde hq hl).imp_right .inl) hrx

/-- Whatever the worker plans, in every phase (R230). -/
theorem keepsInv_workerPlan {s : State} (hi : Inv s) : (workerPlan s).KeepsInv := by
  unfold workerPlan
  cases hp : s.phase with
  | exited => exact hi
  | parked =>
    dsimp only
    split
    · exact inv_takeActivation hi hp
    · exact hi
  | top => exact keepsInv_topPlan hi hp
  | drain k => exact keepsInv_drainPlan hi hp
  | tx => exact keepsInv_txPlan hi hp
  | endPass => exact inv_endStep hi hp

/-! ### The host's requests -/

theorem acceptsWork_iff (s : State) : acceptsWork s = true ↔ s.line ≠ .shutdown ∧ s.pend.stop = false := by
  simp [acceptsWork]

theorem noteFull_eq (short : Nat) (s : State) : ∃ c l, noteFull short s = { s with ctr := c, log := l } := by
  unfold noteFull
  split <;> exact ⟨_, _, rfl⟩

theorem foldl_noteFallback_eq (fs : List Fallback) (s : State) :
    ∃ c l, fs.foldl noteFallback s = { s with ctr := c, log := l } := by
  induction fs generalizing s with
  | nil => exact ⟨_, _, rfl⟩
  | cons f fs ih =>
    obtain ⟨c, l, h⟩ := ih (noteFallback s f)
    exact ⟨c, l, h⟩

/-- A resolved rate has the table's code if the staged one has (R175, R181). -/
theorem formatOk_resolve {p : Config.Board} {g : Format} (hg : FormatOk p g) (baud wlen : Nat) (par : ReqParity)
    (stop : Nat) : FormatOk p (resolve p baud wlen par stop g).1 := by
  cases h : codeOf p baud with
  | some c => simp [FormatOk, resolve, resolveBaud, h]
  | none => simpa only [FormatOk, resolve, resolveBaud, h] using hg

/-- Queueing bytes moves the write position and fills slots; a queue that is still empty was empty before (R272). -/
theorem inv_enqueue {s : State} {n : Nat} {l : List Byte} (hi : Inv s) (hl : s.line ≠ .shutdown) (hn : n ≤ l.length)
    (hfit : n ≤ s.board.xmitCap - 1 - qCount s) : Inv (enqueue n l s) := by
  have hcap : 0 < s.board.xmitCap := Nat.zero_lt_of_lt hi.headInRange
  have hhead : advance n s.head s < s.board.xmitCap := advance_lt n s.head s hcap
  have empty_before (hq : qEmpty (enqueue n l s) = true) : qEmpty s = true := by
    have h0 := (qCount_eq_zero (enqueue n l s) hhead hi.tailInRange).2 hq
    rw [qCount_enqueue hi.headInRange hi.tailInRange l hfit] at h0
    exact (qCount_eq_zero s hi.headInRange hi.tailInRange).1 (by omega)
  exact { hi with
    headInRange := hhead
    memCanonical := writeSlots_wf _ hcap _ _ _ hi.memCanonical
    queueWritten := queueWritten_enqueue hi.headInRange hi.tailInRange hi.queueWritten hn hfit
    enableReleased := fun hde hq hact => hi.enableReleased hde (empty_before hq) hact
    shutdownQuiet := fun h => absurd h hl }

/-- push (R272). -/
theorem inv_push {s : State} (l : List Byte) (hi : Inv s) : Inv (push l s) := by
  unfold push
  split
  next hacc =>
    obtain ⟨hl, -⟩ := (acceptsWork_iff s).1 hacc
    dsimp only
    generalize hn : min l.length (s.board.xmitCap - 1 - qCount s) = n
    have queued : Inv (enqueue n l s) := inv_enqueue hi hl (by omega) (by omega)
    obtain ⟨c, g, e⟩ := noteFull_eq (l.length - n) (enqueue n l s)
    rw [e]
    have counted : Inv { enqueue n l s with ctr := c, log := g } := { queued with }
    apply inv_reply
    split
    · exact counted
    · exact inv_setAndWake counted hl rfl rfl id
  next => exact { hi with }

/-- Opening a shut-down line: nothing was pending, so only the commit is (R274). -/
theorem inv_openPort {s : State} (hi : Inv s) (ha : s.attached = true) : Inv (openPort s) := by
  unfold openPort
  split
  next hl =>
    obtain ⟨hpend, -, hos, -⟩ := hi.shutdownQuiet hl
    have hdis : s.pend.dis = false := by rw [hpend]; rfl
    have hsusp : s.pend.susp = false := by rw [hpend]; rfl
    exact { hi with
      enableReleased := fun _ _ _ => .inr (.inr (.inr rfl))
      exitedIffShutdown := iff_of_false nofun nofun
      startingCommits := fun _ => ⟨rfl, hos, hdis, .inl rfl⟩
      suspendIffSuspending := iff_of_false (fun h => Bool.false_ne_true (hsusp.symm.trans h)) nofun
      armedIff := iff_of_true rfl (.inl rfl)
      stopSeen := fun _ => .inl rfl
      rxBufBound := hi.rxbuf_nil (.inr (.inr (.inr (hi.exitedIffShutdown.2 hl))))
      shutdownQuiet := nofun
      suspendedQuiet := nofun
      detachedShutdown := fun h => absurd (ha.symm.trans h) nofun }
  next => exact inv_refuse _ hi

/-- set_format stages a supported format (R276, R181). -/
theorem inv_setFormat {s : State} (baud wlen : Nat) (par : ReqParity) (stop : Nat) (hi : Inv s) :
    Inv (setFormat baud wlen par stop s) := by
  unfold setFormat
  split
  next h =>
    obtain ⟨hl, -⟩ := h
    obtain ⟨c, g, e⟩ := foldl_noteFallback_eq (resolve s.board baud wlen par stop s.stg).2 s
    dsimp only
    rw [e]
    have staged : Inv { s with stg := (resolve s.board baud wlen par stop s.stg).1, ctr := c, log := g } :=
      { hi with stagedFormatOk := formatOk_resolve hi.stagedFormatOk baud wlen par stop }
    exact inv_reply _ (inv_setAndWake staged (by simp [hl]) rfl rfl fun _ => rfl)
  next => exact inv_refuse _ hi

theorem inv_flush {s : State} (hi : Inv s) : Inv (flush s) := by
  unfold flush
  split
  next h => exact inv_reply _ (inv_setAndWake hi ((acceptsWork_iff s).1 h).1 rfl rfl id)
  next => exact inv_refuse _ hi

theorem inv_stopTx {s : State} (hi : Inv s) : Inv (stopTx s) := by
  unfold stopTx
  split
  · exact { hi with }
  · exact inv_refuse _ hi

theorem inv_startTx {s : State} (hi : Inv s) : Inv (startTx s) := by
  unfold startTx
  split
  next h =>
    have unstopped : Inv { s with txstop := false } := { hi with }
    exact inv_reply _ (inv_setAndWake unstopped ((acceptsWork_iff s).1 h).1 rfl rfl id)
  next => exact inv_refuse _ hi

theorem inv_close {s : State} (hi : Inv s) : Inv (close s) := by
  unfold close
  split
  next h => exact inv_reply _ (inv_setAndWake hi ((acceptsWork_iff s).1 h).1 rfl rfl id)
  next => exact inv_refuse _ hi

/-- suspend of a line that is up (R282). -/
theorem inv_suspend {s : State} (hi : Inv s) : Inv (suspend s) := by
  unfold suspend
  split
  next h =>
    obtain ⟨hl, -⟩ := h
    have hup : s.line ≠ .shutdown := by obtain hl | hl := hl <;> simp [hl]
    exact { hi with
      enableReleased := nofun
      exitedIffShutdown := iff_of_false (hi.phase_ne_exited hup) nofun
      startingCommits := nofun
      suspendIffSuspending := iff_of_true rfl rfl
      armedIff := iff_of_true (hi.armedIff.2 (hl.imp_right .inl)) (.inr (.inr rfl))
      stopSeen := fun _ => .inl rfl
      shutdownQuiet := nofun
      suspendedQuiet := nofun
      detachedShutdown := fun ha => absurd (hi.detachedShutdown ha) hup }
  next => exact inv_reply _ hi

/-- A resume makes the line active with its sources armed and no suspend pending, and asks for a commit (R284): from `Suspended`, and
from `Suspending`, where it takes the suspend back. -/
theorem inv_resumed {s : State} (hi : Inv s) (hup : s.line ≠ .shutdown) (susp : Bool) (hsusp : susp = false) :
    Inv { s with line := .active, armed := true, pend := { s.pend with susp := susp, cfg := true }, wake := true } :=
  { hi with
    enableReleased := fun _ _ _ => .inr (.inr (.inr rfl))
    exitedIffShutdown := iff_of_false (hi.phase_ne_exited hup) nofun
    startingCommits := nofun
    suspendIffSuspending := iff_of_false (by simp [hsusp]) nofun
    armedIff := iff_of_true rfl (.inr (.inl rfl))
    stopSeen := fun _ => .inl rfl
    shutdownQuiet := nofun
    suspendedQuiet := nofun
    detachedShutdown := fun ha => absurd (hi.detachedShutdown ha) hup }

theorem inv_resume {s : State} (hi : Inv s) : Inv (resume s) := by
  unfold resume
  split
  · exact inv_reply _ hi
  · split
    next hl =>
      have hsusp : s.pend.susp = false := by simpa [hl] using hi.suspendIffSuspending
      exact { inv_resumed hi (by simp [hl]) s.pend.susp hsusp with }
    next hl =>
      have harmed : s.armed = true := hi.armedIff.2 (.inr (.inr hl))
      exact { inv_resumed hi (by simp [hl]) false rfl with
        armedIff := iff_of_true harmed (.inr (.inl rfl)) }
    next => exact inv_reply _ hi

theorem inv_detach {s : State} (hi : Inv s) : Inv (detach s) := by
  unfold detach
  split
  next hl => exact { hi with detachedShutdown := fun _ => hl }
  next => exact inv_refuse _ hi

/-- Every request of the host on an existing Port (R270). -/
theorem inv_hostStep {s : State} (r : Request) (hi : Inv s) (ha : s.attached = true) : Inv (hostStep r s) := by
  cases r with
  | attach available clock => exact inv_refuse _ hi
  | push l => exact inv_push l hi
  | openPort => exact inv_openPort hi ha
  | setFormat b w p st => exact inv_setFormat b w p st hi
  | flush => exact inv_flush hi
  | stopTx => exact inv_stopTx hi
  | startTx => exact inv_startTx hi
  | queryModem => exact inv_reply _ hi
  | queryTxe => exact inv_reply _ hi
  | suspend => exact inv_suspend hi
  | resume => exact inv_resume hi
  | close => exact inv_close hi
  | detach => exact inv_detach hi
  | setMctrl m => exact inv_reply _ hi

/-! ### The activation sources, the clock, and a machine without a Port -/

/-- The sources of a shut-down line are disarmed (R292). -/
theorem Inv.line_of_armed {s : State} (hi : Inv s) (h : s.armed = true) : s.line ≠ .shutdown := by
  obtain hl | hl | hl := hi.armedIff.1 h <;> simp [hl]

theorem inv_irq {s : State} (hi : Inv s) : Inv (irq s) := by
  unfold irq
  split
  next h =>
    obtain ⟨-, harmed⟩ := Bool.and_eq_true_iff.1 h
    exact inv_setAndWake hi (hi.line_of_armed harmed) rfl rfl id
  next => exact hi

theorem inv_poll {s : State} (hi : Inv s) : Inv (poll s) := by
  unfold poll
  split
  next p _ =>
    split
    next h =>
      obtain ⟨harmed, -⟩ := Bool.and_eq_true_iff.1 h
      have restarted : Inv { s with npoll := s.now + p } := { hi with }
      exact inv_setAndWake restarted (hi.line_of_armed harmed) rfl rfl id
    next => exact hi
  next => exact hi

/-- The one-shot fires at the deadline, so the disable it asks for is past it (R53, R207). -/
theorem inv_fire {s : State} (hi : Inv s) : Inv (fire s) := by
  unfold fire
  split
  next d hos =>
    split
    next hdue =>
      have hdl : s.dl ≤ s.now := by
        rw [← hi.oneShotAtDeadline d hos]
        exact hdue
      have hbusy : s.os ≠ none := by simp [hos]
      exact { hi with
        oneShotAtDeadline := nofun
        disableDue := fun _ => hdl
        enableReleased := fun _ _ _ => .inr (.inr (.inr rfl))
        startingCommits := fun hl =>
          have ⟨_, h, _⟩ := hi.startingCommits hl
          absurd h hbusy
        stopSeen := fun _ => .inl rfl
        shutdownQuiet := fun hl =>
          have ⟨_, _, h, _⟩ := hi.shutdownQuiet hl
          absurd h hbusy
        suspendedQuiet := fun hl =>
          have ⟨h, _⟩ := hi.suspendedQuiet hl
          absurd h hbusy }
    next => exact hi
  next => exact hi

theorem inv_tick {s : State} (d : Nat) (hi : Inv s) : Inv (tick d s) :=
  { hi with disableDue := fun h => Nat.le_add_right_of_le (hi.disableDue h) }

theorem inv_producerStep {s : State} (m : Move) (hi : Inv s) (ha : s.attached = true) : Inv (producerStep m s) := by
  cases m with
  | worker => exact hi
  | host r => exact inv_hostStep r hi ha
  | irq => exact inv_irq hi
  | poll => exact inv_poll hi
  | fire => exact inv_fire hi
  | tick d => exact inv_tick d hi

theorem formatOk_defaultFormat {p : Config.Board} (h : boardOk p = true) : FormatOk p (defaultFormat p) := by
  obtain ⟨-, -, -, hcode⟩ := (boardOk_iff p).1 h
  obtain ⟨c, hc⟩ := Option.isSome_iff_exists.1 hcode
  simp [FormatOk, defaultFormat, hc]

/-- The reset state, with parameters that meet their preconditions (R350, R355). -/
theorem inv_resetWith {b : Config.Board} (clock : Nat) (e : Env) (hb : boardOk b = true) :
    Inv (State.resetWith b clock e) :=
  have hcap : 0 < b.xmitCap := by
    obtain ⟨h, -⟩ := (boardOk_iff b).1 hb
    omega
  { paramsOk := hb
    headInRange := hcap
    tailInRange := hcap
    memCanonical := rfl
    queueWritten := queueWritten_of_head_eq_tail (s := State.resetWith b clock e) rfl
    activeFormatOk := formatOk_defaultFormat hb
    stagedFormatOk := formatOk_defaultFormat hb
    holdFresh := rfl
    oneShotAtDeadline := nofun
    disableDue := nofun
    enableReleased := nofun
    exitedIffShutdown := iff_of_true rfl rfl
    startingCommits := nofun
    suspendIffSuspending := iff_of_false nofun nofun
    armedIff := iff_of_false nofun nofun
    stopSeen := nofun
    rxBufBound := rfl
    shutdownQuiet := fun _ => ⟨rfl, rfl, rfl, rfl⟩
    suspendedQuiet := nofun
    detachedShutdown := fun _ => rfl }

theorem inv_detachedStep {s : State} (m : Move) (hi : Inv s) : Inv (detachedStep m s) := by
  unfold detachedStep
  split
  · unfold attachPort
    split
    · exact inv_reply _ (inv_resetWith _ _ hi.paramsOk)
    · exact inv_reply _ hi
  · exact hi

/-! ### One step of the machine -/

/-- Settles O49: the agent that moves is a producer, the worker, or nobody's but the host's where no Port exists; each keeps the
invariant. -/
theorem everyStepKeepsTheInvariant : Obligations.EveryStepKeepsTheInvariant := by
  intro s t hi h
  have hc : Inv s.chosen := inv_chosen hi
  have hplan := keepsInv_workerPlan hc
  obtain ⟨-, rfl⟩ | ⟨ha, -, rfl⟩ | ⟨-, -, hp⟩ | ⟨-, -, k, u, i, hp, hd, hx⟩ := step_cases s t h
  · exact inv_detachedStep _ hc
  · exact inv_producerStep _ hc ha
  · rw [hp] at hplan
    exact hplan
  · rw [hp] at hplan
    obtain ⟨t', hx', ht'⟩ := hplan
    rw [decodeWord_enc] at hd
    cases hd
    rw [hx'] at hx
    cases hx
    exact ht'

end Sys2Proof.Machine
end

section
/-!
The driver enable and the bus trace: only a transaction moves either, each transaction puts its own word on the trace, and what it
does to the enable depends on its kind and its answer alone, but for the power-down of a requested stop (R22, R147 to R149).
-/

namespace Sys2Proof.Machine

/-- The two states agree in the driver enable and in the bus trace. -/
def SameEnable (s t : State) : Prop := t.de = s.de ∧ t.env.bus = s.env.bus

theorem SameEnable.rfl {s : State} : SameEnable s s := ⟨Eq.refl _, Eq.refl _⟩

theorem SameEnable.trans {s t u : State} (h : SameEnable s t) (g : SameEnable t u) : SameEnable s u :=
  ⟨g.1.trans h.1, g.2.trans h.2⟩

/-- A guard between two outcomes that leave enable and trace: the shape of every request and source that may be refused or idle. -/
theorem SameEnable.ite {c : Prop} [Decidable c] {s t u : State} (ht : SameEnable s t) (hu : SameEnable s u) :
    SameEnable s (if c then t else u) := by
  split
  · exact ht
  · exact hu

theorem sameEnable_chosen (s : State) : SameEnable s s.chosen := ⟨chosen_de s, afterMove_bus s.env⟩

theorem sameEnable_deliver (s : State) : SameEnable s (deliver s) := ⟨deliver_de s, deliver_bus s⟩

theorem sameEnable_capture (r : Word) (inDrain : Bool) (s : State) : SameEnable s (capture r inDrain s) :=
  ⟨capture_de r inDrain s, capture_bus r inDrain s⟩

theorem sameEnable_drainNext (r : Word) (s : State) : SameEnable s (drainNext r s) := by
  unfold drainNext
  split
  · exact .ite (sameEnable_deliver s) (.ite .rfl (sameEnable_deliver (setPend _ s)))
  · exact .rfl

/-! ### Agents beside the worker -/

theorem sameEnable_push (l : List Byte) (s : State) : SameEnable s (push l s) := by
  unfold push
  split
  · obtain ⟨c, g, e⟩ :=
      noteFull_eq (l.length - min l.length (s.board.xmitCap - 1 - qCount s))
        (enqueue (min l.length (s.board.xmitCap - 1 - qCount s)) l s)
    dsimp only
    rw [e]
    split <;> exact .rfl
  · exact .rfl

theorem sameEnable_setFormat (baud wlen : Nat) (par : ReqParity) (stop : Nat) (s : State) :
    SameEnable s (setFormat baud wlen par stop s) := by
  obtain ⟨c, g, e⟩ := foldl_noteFallback_eq (resolve s.board baud wlen par stop s.stg).2 s
  unfold setFormat
  dsimp only
  rw [e]
  exact .ite .rfl .rfl

/-- No request writes the driver enable or touches the bus (R153, R327). -/
theorem sameEnable_hostStep (r : Request) (s : State) : SameEnable s (hostStep r s) := by
  cases r with
  | attach available clock => exact .rfl
  | push l => exact sameEnable_push l s
  | openPort => exact .ite .rfl .rfl
  | setFormat b w p st => exact sameEnable_setFormat b w p st s
  | flush => exact .ite .rfl .rfl
  | stopTx => exact .ite .rfl .rfl
  | startTx => exact .ite .rfl .rfl
  | queryModem => exact .rfl
  | queryTxe => exact .rfl
  | suspend => exact .ite .rfl .rfl
  | resume =>
    refine .ite .rfl ?_
    split <;> exact .rfl
  | close => exact .ite .rfl .rfl
  | detach => exact .ite .rfl .rfl
  | setMctrl m => exact .rfl

theorem sameEnable_producerStep (m : Move) (s : State) : SameEnable s (producerStep m s) := by
  cases m with
  | worker => exact .rfl
  | host r => exact sameEnable_hostStep r s
  | irq => exact .ite .rfl .rfl
  | poll =>
    change SameEnable s (poll s)
    unfold poll
    split
    · exact .ite .rfl .rfl
    · exact .rfl
  | fire =>
    change SameEnable s (fire s)
    unfold fire
    split
    · exact .ite .rfl .rfl
    · exact .rfl
  | tick d => exact .rfl

/-! ### The worker's steps without a word -/

theorem sameEnable_of_disableEvaluation {s t : State} (h : disableEvaluation s = .silent t) : SameEnable s t := by
  obtain ⟨e, -⟩ | ⟨e, -⟩ | ⟨e, -⟩ | ⟨e, -⟩ := disableEvaluation_cases s _ rfl <;> rw [e] at h <;> cases h <;> exact .rfl

theorem sameEnable_of_topPlan {s t : State} (h : topPlan s = .silent t) : SameEnable s t := by
  obtain ⟨e, -⟩ | ⟨-, -, ⟨e, -⟩ | ⟨e, -⟩ | ⟨e, -⟩ | ⟨e, -⟩ | ⟨e, -⟩⟩ := topPlan_cases s <;> rw [e] at h
  case inr.inr.inl => exact sameEnable_of_disableEvaluation h
  all_goals cases h <;> exact .rfl

theorem sameEnable_of_silent {s t : State} (h : workerPlan s = .silent t) : SameEnable s t := by
  unfold workerPlan at h
  cases hp : s.phase with simp only [hp] at h
  | exited => cases h; exact .rfl
  | parked => split at h <;> cases h <;> exact .rfl
  | top => exact sameEnable_of_topPlan h
  | drain k =>
    obtain ⟨e, -⟩ | ⟨e, -⟩ := drainPlan_cases s <;> rw [e] at h <;> cases h
    exact sameEnable_deliver s
  | tx =>
    obtain ⟨e, -⟩ | ⟨-, ⟨e, -⟩ | ⟨-, -, -, ⟨c, -, e⟩ | ⟨-, e⟩⟩⟩ := txPlan_cases s <;> rw [e] at h <;> cases h <;>
      exact .rfl
  | endPass => cases h; exact ⟨endStep_de s, endStep_bus s⟩

/-! ### The transactions -/

/-- The driver enable after a word and its answer (R22, R146 to R149): a character leaves it on, the disable word drops it, a
power-down leaves it unknown (in the stop sequence even where it fails, R237), and nothing else moves it. -/
def enableAfter (i : Instr) (a : Answer) (stop : Bool) (d : DEState) : DEState :=
  match i, a with
  | .txd _ _, .ok _ => .on
  | .deoff, .ok _ => .off
  | .pwrdn _ _ _ _, .ok _ => .unknown
  | .pwrdn _ _ _ _, .err => if stop then .unknown else d
  | _, _ => d

/-- What a transaction does to the driver enable and to the bus trace. -/
def EnableStep (i : Instr) (s t : State) : Prop :=
  t.de = enableAfter i (nextAnswer s.env) s.pend.stop s.de ∧
  t.env.bus = s.env.bus ++ [{ out := encode i, answer := nextAnswer s.env }]

/-- An exchange of a word puts that word and its answer on the trace; what follows the answer then leaves the trace, and settles the
enable. -/
theorem enableStep_exchange {i : Instr} {onErr : State → State} {onOk : Word → State → State} {s : State}
    (hErr : ∀ u, u.de = s.de → (onErr u).de = enableAfter i .err s.pend.stop s.de ∧ (onErr u).env.bus = u.env.bus)
    (hOk : ∀ r u, u.de = s.de → (onOk r u).de = enableAfter i (.ok r) s.pend.stop s.de ∧ (onOk r u).env.bus = u.env.bus) :
    EnableStep i s (exchange (encode i) onErr onOk s) := by
  have htrace : (exchanged (encode i) s).env.bus = s.env.bus ++ [{ out := encode i, answer := nextAnswer s.env }] :=
    afterAnswer_bus (encode i) s.env
  unfold EnableStep
  obtain ⟨ha, e⟩ | ⟨r, ha, e⟩ := exchange_cases (encode i) onErr onOk s <;> rw [e]
  · obtain ⟨hde, hbus⟩ := hErr (exchanged (encode i) s) rfl
    rw [hde, hbus, htrace, ha]
    exact ⟨rfl, rfl⟩
  · obtain ⟨hde, hbus⟩ := hOk r (exchanged (encode i) s) rfl
    rw [hde, hbus, htrace, ha]
    exact ⟨rfl, rfl⟩

theorem enableStep_of_exec {i : Instr} {s t : State} (h : exec i s = .next t) : EnableStep i s t := by
  cases i with
  | cfg st pe l b =>
    cases h
    exact enableStep_exchange (i := .cfg st pe l b) (s := setPend _ s) (fun u hu => ⟨hu, rfl⟩) fun r u hu => ⟨hu, rfl⟩
  | pwrdn st pe l b =>
    cases h
    split
    next hstop =>
      exact enableStep_exchange (fun u _ => ⟨by simp [enableAfter, hstop], rfl⟩) fun r u _ => ⟨rfl, rfl⟩
    next hstop =>
      split
      · exact enableStep_exchange (fun u hu => ⟨by simpa [enableAfter, hstop, failExchange_eq] using hu, rfl⟩) fun r u _ => ⟨rfl, rfl⟩
      · exact enableStep_exchange (fun u hu => ⟨by simpa [enableAfter, hstop, failExchange_eq] using hu, rfl⟩) fun r u _ => ⟨rfl, rfl⟩
  | rd =>
    cases h
    refine enableStep_exchange (fun u hu => ⟨hu, rfl⟩) fun r u hu => ?_
    obtain ⟨hde, hbus⟩ :=
      (sameEnable_capture r true (decodeData r (decodeStatus r u))).trans (sameEnable_drainNext r _)
    exact ⟨hde.trans hu, hbus⟩
  | txd pt d =>
    cases h
    exact enableStep_exchange (fun u hu => ⟨hu, rfl⟩) fun r u _ => sameEnable_capture r false _
  | deoff =>
    cases h
    exact enableStep_exchange (fun u hu => ⟨hu, rfl⟩) fun r u _ => sameEnable_capture r false _
  | rc => cases h

/-- Only the disable word, answered, drops an enable (R22, R148). -/
theorem enableAfter_eq_off {i : Instr} {a : Answer} {stop : Bool} {d : DEState} (hd : d ≠ .off)
    (h : enableAfter i a stop d = .off) : i = .deoff ∧ ∃ r, a = .ok r := by
  cases a with
  | ok r =>
    cases i with
    | deoff => exact ⟨rfl, r, rfl⟩
    | txd | pwrdn => cases h
    | cfg | rd | rc => exact absurd h hd
  | err =>
    cases i with
    | pwrdn st pe l b =>
      cases stop with
      | true => cases h
      | false => exact absurd h hd
    | cfg | rd | txd | deoff | rc => exact absurd h hd

/-! ### One step of the machine -/

/-- A step of an existing Port leaves enable and trace, or is one transaction, fetched and run by the worker. -/
theorem enable_of_step {s t : State} (ha : s.attached = true) (h : step s = .next t) :
    SameEnable s t ∨
    ∃ k u, workerPlan s.chosen = .issue k u ∧ u.de = s.de ∧ u.env.bus = s.env.bus ∧ EnableStep (instrOf k) u t := by
  obtain ⟨hd, -⟩ | ⟨-, -, rfl⟩ | ⟨-, -, hp⟩ | ⟨-, -, k, u, i, hp, hd, hx⟩ := step_cases s t h
  · simp [hd] at ha
  · exact .inl ((sameEnable_chosen s).trans (sameEnable_producerStep _ _))
  · exact .inl ((sameEnable_chosen s).trans (sameEnable_of_silent hp))
  · rw [decodeWord_enc] at hd
    cases hd
    have hu : SameEnable s.chosen u := by
      obtain ⟨rfl, -⟩ | ⟨-, rfl, -⟩ := workerPlan_issue _ u k hp <;> exact .rfl
    obtain ⟨hde, hbus⟩ := (sameEnable_chosen s).trans hu
    exact .inr ⟨k, u, hp, hde, hbus, enableStep_of_exec hx⟩

/-- Settles O54: a step that drops the enable is a disable word answered, which the worker issues only past R208's tests; and a
character word on the trace was a transmit's, whose answer leaves the enable on. -/
theorem enableDropsOnlyBySafeDisable : Obligations.EnableDropsOnlyBySafeDisable := by
  intro s t ha h
  obtain ⟨hde, hbus⟩ | ⟨k, u, hp, hu, hub, hde, hbus⟩ := enable_of_step ha h
  · constructor
    · exact fun hon hoff => absurd (hde.symm.trans hoff) hon
    · intro f c r htrace
      simp [hbus] at htrace
  · rw [hub] at hbus
    constructor
    · intro hon hoff
      obtain ⟨hi, r, hr⟩ := enableAfter_eq_off (hu ▸ hon) (hde.symm.trans hoff)
      have hk : k = .deoff := by cases k <;> simp [instrOf] at hi ⊢
      obtain ⟨-, hne⟩ | ⟨-, -, -, -, -, -, -, -, hq, -, hdl⟩ := workerPlan_issue _ u k hp
      · exact absurd hk hne
      · refine ⟨hdl, of_decide_eq_true hq, r, ?_⟩
        rw [hbus, hi, hr]
        rfl
    · intro f c r htrace
      rw [hbus, encode_instrOf] at htrace
      obtain ⟨henc, hr⟩ := Exchange.mk.inj (List.singleton_inj.1 (List.append_cancel_left htrace))
      rw [hde, instrOf_eq_of_enc_eq henc, hr]
      rfl

end Sys2Proof.Machine
end

section
/-!
A failed exchange: every transaction ends it in the same bookkeeping, and only the flag that is set again depends on the kind
(R140, R242).
-/

namespace Sys2Proof.Machine

/-- A transaction whose exchange fails ends in the failure bookkeeping, whatever an answer would have led to (R140, R337). -/
theorem exchange_failExchange_of_err {w : Word} {again : PendingFlags → PendingFlags} {onOk : Word → State → State} {s : State}
    (h : nextAnswer s.env = .err) :
    exchange w (failExchange w again) onOk s =
      { s with log := s.log ++ [{ event := .transportError w s.phase, time := s.now }]
               ctr := { s.ctr with nxerr := s.ctr.nxerr + 1 }
               fail := true, pend := again s.pend, phase := .endPass
               chip := .unknown, env := afterAnswer w s.env } := by
  have hchip : (exchanged w s).chip = .unknown := by rw [exchanged_chip, h]; rfl
  rw [exchange_err w _ _ s h, failExchange_eq, hchip]
  rfl

/-- Setting the suspend flag again where it is still set changes no flag: the suspend step never cleared it (R238). -/
theorem setSusp_eq_self {p : PendingFlags} (h : p.susp = true) : { p with susp := true } = p := by rw [← h]

/-- A failed power-down outside the stop sequence sets no flag, whether it is the suspend step's or not (R149, R238). -/
theorem execPwrdn_of_err {st pe l : Bool} {b : BitVec 4} {s : State} (h : nextAnswer s.env = .err) (hstop : s.pend.stop = false) :
    execPwrdn st pe l b s = .next
      { s with log := s.log ++ [{ event := .transportError (encode (.pwrdn st pe l b)) s.phase, time := s.now }]
               ctr := { s.ctr with nxerr := s.ctr.nxerr + 1 }
               fail := true, phase := .endPass
               chip := .unknown, env := afterAnswer (encode (.pwrdn st pe l b)) s.env } := by
  rw [execPwrdn, if_neg (by simp [hstop])]
  split
  next hsusp => rw [suspendStep, exchange_failExchange_of_err h, setSusp_eq_self hsusp]
  next => rw [powerDown, exchange_failExchange_of_err h]

/-- Settles O24: each kind's failure is the shared bookkeeping with its own flag set again. The commit took its flag before the
exchange and gets it back; the power-down needs that no stop is pending. -/
theorem failedExchangeChangesOnlyBookkeeping : Obligations.FailedExchangeChangesOnlyBookkeeping := by
  intro i s hrc h hstop
  cases i with
  | cfg st pe l b => exact congrArg Host.Outcome.next (exchange_failExchange_of_err (s := setPend _ s) h)
  | pwrdn st pe l b => exact execPwrdn_of_err h (hstop rfl)
  | rd => exact congrArg Host.Outcome.next (exchange_failExchange_of_err h)
  | txd pt d => exact congrArg Host.Outcome.next (exchange_failExchange_of_err h)
  | deoff => exact congrArg Host.Outcome.next (exchange_failExchange_of_err h)
  | rc => exact absurd rfl hrc

end Sys2Proof.Machine
end

section
/-!
The bus words both ways: the decoder reads back every instruction from its word, in a byte stream as well, and a word it accepts is
fixed by its row and the fields it reads there (R101 to R107).
-/

namespace Sys2Proof.Machine

/-! ### From an instruction to its word and back -/

theorem decodeWord_encode (i : Instr) : decodeWord (encode i) = .ok i := by
  cases i with
  | cfg st pe l b => exact (decodeWord_writeConfigWord st pe l b).1
  | pwrdn st pe l b => exact (decodeWord_writeConfigWord st pe l b).2
  | txd pt d => exact decodeWord_writeDataWord pt d
  | rd | deoff | rc => decide

/-- A word is its two bytes, the high one first (R72). -/
theorem wordOfBytes_extractLsb' (w : Word) : wordOfBytes (w.extractLsb' 8 8) (w.extractLsb' 0 8) = w :=
  BitVec.extractLsb'_append_extractLsb'

/-- Settles O1: the two bytes make the word again, and the decoder reads the instruction from it. -/
theorem decodeEncodeRoundTrip : Obligations.DecodeEncodeRoundTrip := by
  intro i rest
  simp only [encodeBytes, List.cons_append, List.nil_append, decode, wordOfBytes_extractLsb', decodeWord_encode]

/-! ### From a word to its instruction and back -/

/-- The six rows under which a word is accepted, with the fields read there (R102 to R105). -/
theorem decodeWord_ok_cases {w : Word} {i : Instr} (h : decodeWord w = .ok i) :
    (w &&& 0xFF80#16 = 0xC400#16 ∧ i = .cfg (w.getLsbD 6) (w.getLsbD 5) (w.getLsbD 4) (w.extractLsb' 0 4)) ∨
    (w &&& 0xFF80#16 = 0xD400#16 ∧ i = .pwrdn (w.getLsbD 6) (w.getLsbD 5) (w.getLsbD 4) (w.extractLsb' 0 4)) ∨
    (w &&& 0xFE00#16 = 0x8200#16 ∧ i = .txd (w.getLsbD 8) (w.extractLsb' 0 8)) ∨
    (w = 0x0000#16 ∧ i = .rd) ∨ (w = 0x8400#16 ∧ i = .deoff) ∨ (w = 0x4000#16 ∧ i = .rc) := by
  unfold decodeWord at h
  split_ifs at h with hcfg hpwrdn htxd hrd hdeoff hrc <;> cases h
  · exact .inl ⟨hcfg, rfl⟩
  · exact .inr (.inl ⟨hpwrdn, rfl⟩)
  · exact .inr (.inr (.inl ⟨htxd, rfl⟩))
  · exact .inr (.inr (.inr (.inl ⟨hrd, rfl⟩)))
  · exact .inr (.inr (.inr (.inr (.inl ⟨hdeoff, rfl⟩))))
  · exact .inr (.inr (.inr (.inr (.inr ⟨hrc, rfl⟩))))

/-- Two words that agree in the bits a mask fixes and in those it leaves free are one. -/
theorem eq_of_masked_of_free {v w m : Word} (hfixed : v &&& m = w &&& m)
    (hfree : ∀ j < 16, m.getLsbD j = false → v.getLsbD j = w.getLsbD j) : v = w := by
  apply BitVec.eq_of_getLsbD_eq
  intro j hj
  have hbit : (v.getLsbD j && m.getLsbD j) = (w.getLsbD j && m.getLsbD j) := by
    simpa only [BitVec.getLsbD_and] using congrArg (·.getLsbD j) hfixed
  cases hm : m.getLsbD j with
  | false => exact hfree j hj hm
  | true => simpa only [hm, Bool.and_true] using hbit

/-- Written with the fields read from a word, a configuration write has that word's bits 6 to 0 (R102). -/
theorem writeConfigWord_free_bits (shdn : Bool) (w : Word) (j : Nat) (hj : j < 16) (hm : (0xFF80#16).getLsbD j = false) :
    (writeConfigWord shdn (w.getLsbD 6) (w.getLsbD 5) (w.getLsbD 4) (w.extractLsb' 0 4)).getLsbD j = w.getLsbD j := by
  simp only [writeConfigWord, BitVec.getLsbD_append]
  interval_cases j <;> simp at hm ⊢

/-- Written with the fields read from a word, a character word has that word's bits 8 to 0 (R104). -/
theorem writeDataWord_free_bits (w : Word) (j : Nat) (hj : j < 16) (hm : (0xFE00#16).getLsbD j = false) :
    (writeDataWord false true (w.getLsbD 8) (w.extractLsb' 0 8)).getLsbD j = w.getLsbD j := by
  simp only [writeDataWord, BitVec.getLsbD_append]
  interval_cases j <;> simp at hm ⊢

/-- Settles O2: the row fixes the bits under its mask, and the fields read are the others. -/
theorem decodedWordEncodesBack : Obligations.DecodedWordEncodesBack := by
  intro w i h
  obtain ⟨hw, rfl⟩ | ⟨hw, rfl⟩ | ⟨hw, rfl⟩ | ⟨rfl, rfl⟩ | ⟨rfl, rfl⟩ | ⟨rfl, rfl⟩ := decodeWord_ok_cases h
  · exact eq_of_masked_of_free ((Laws.TableRow.cfg _ _ _ _).trans hw.symm) (writeConfigWord_free_bits false w)
  · exact eq_of_masked_of_free ((Laws.TableRow.pwrdn _ _ _ _).trans hw.symm) (writeConfigWord_free_bits true w)
  · exact eq_of_masked_of_free ((Laws.TableRow.txd _ _).trans hw.symm) (writeDataWord_free_bits w)
  all_goals rfl

/-! ### The words of the transactions -/

/-- Settles O3: the formula of R109 spells the instruction's fields, and the decoder reads them back. -/
theorem assembledWordsDecode : Obligations.AssembledWordsDecode :=
  fun k => ⟨encode_instrOf k, decodeWord_enc k⟩

/-- A transaction's word says as much as its instruction (R109). -/
theorem enc_eq_iff (k k' : Txn) : enc k = enc k' ↔ instrOf k = instrOf k' := by
  constructor
  · exact instrOf_eq_of_enc_eq
  · intro h
    rw [← encode_instrOf, ← encode_instrOf, h]

theorem stBit_eq_iff (f g : Format) : stBit f = stBit g ↔ f.stop = g.stop := by
  unfold stBit
  cases f.stop <;> cases g.stop <;> decide

theorem lBit_eq_iff (f g : Format) : lBit f = lBit g ↔ f.wlen = g.wlen := by
  unfold lBit
  cases f.wlen <;> cases g.wlen <;> decide

/-- The word tells whether there is parity, not which (R109). -/
theorem peBit_eq_iff (f g : Format) : peBit f = peBit g ↔ (f.par = .none ↔ g.par = .none) := by
  unfold peBit
  rw [decide_eq_decide, not_iff_not]

/-- The fields of two configuration writes agree exactly when the formats agree in what the word carries (R109). -/
theorem configFields_eq_iff (f g : Format) :
    (stBit f = stBit g ∧ peBit f = peBit g ∧ lBit f = lBit g ∧ f.code = g.code) ↔
      f.code = g.code ∧ f.wlen = g.wlen ∧ f.stop = g.stop ∧ (f.par = .none ↔ g.par = .none) := by
  rw [stBit_eq_iff, peBit_eq_iff, lBit_eq_iff]
  tauto

/-- Settles O4: equal words are equal instructions, so the kinds agree, and then the fields do. -/
theorem kindsNeverShareAWord : Obligations.KindsNeverShareAWord := by
  intro k k'
  rw [enc_eq_iff]
  cases k with
  | cfg f =>
    cases k' with
    | cfg g => simpa only [instrOf, Instr.cfg.injEq] using configFields_eq_iff f g
    | pwrdn | rd | txd | deoff => simp [instrOf]
  | pwrdn f =>
    cases k' with
    | pwrdn g => simpa only [instrOf, Instr.pwrdn.injEq] using configFields_eq_iff f g
    | cfg | rd | txd | deoff => simp [instrOf]
  | txd f c =>
    cases k' with
    | txd g d => simp only [instrOf, Instr.txd.injEq, Prod.ext_iff, and_comm]
    | cfg | pwrdn | rd | deoff => simp [instrOf]
  | rd => cases k' <;> simp [instrOf]
  | deoff => cases k' <;> simp [instrOf]

/-- Settles O5, by running the decoder on the seven words. -/
theorem sampleWordsDecode : Obligations.SampleWordsDecode := by
  unfold Obligations.SampleWordsDecode
  decide

end Sys2Proof.Machine
end

section
/-!
What a step puts on the bus: nothing, or the one word of the transaction its worker planned (R108, R230).
-/

namespace Sys2Proof.Machine

/-- A Port attached anew keeps the trace of the environment it comes from (R271). -/
theorem bus_detachedStep (m : Move) (s : State) : (detachedStep m s).env.bus = s.env.bus := by
  unfold detachedStep attachPort
  split
  · split <;> rfl
  · rfl

/-- The state a word is issued from has the enable and the trace the worker step began with. -/
theorem sameEnable_of_issue {s u : State} {k : Txn} (h : workerPlan s = .issue k u) : SameEnable s u := by
  obtain ⟨rfl, -⟩ | ⟨-, rfl, -⟩ := workerPlan_issue s u k h <;> exact .rfl

/-- A planned transaction, fetched and run, puts its kind's word on the trace (R108, R109). -/
theorem bus_of_issue {s u t : State} {k : Txn} {i : Instr} (hp : workerPlan s = .issue k u)
    (hd : decodeWord (enc k) = .ok i) (hx : exec i u = .next t) :
    t.env.bus = s.env.bus ++ [{ out := enc k, answer := nextAnswer u.env }] := by
  rw [decodeWord_enc] at hd
  cases hd
  obtain ⟨-, hbus⟩ := enableStep_of_exec hx
  obtain ⟨-, hu⟩ := sameEnable_of_issue hp
  rw [hbus, hu, encode_instrOf]

/-- Settles O51: of the four kinds of step only the worker's transaction reaches the bus, with the word of its kind. -/
theorem onlySequencerWordsReachTheBus : Obligations.OnlySequencerWordsReachTheBus := by
  intro s t h
  have hchosen : s.chosen.env.bus = s.env.bus := afterMove_bus s.env
  rw [← hchosen]
  obtain ⟨-, rfl⟩ | ⟨-, -, rfl⟩ | ⟨-, -, hp⟩ | ⟨-, hm, k, u, i, hp, hd, hx⟩ := step_cases s t h
  · exact .inl (bus_detachedStep _ s.chosen)
  · exact .inl (sameEnable_producerStep _ s.chosen).2
  · exact .inl (sameEnable_of_silent hp).2
  · exact .inr ⟨k, nextAnswer u.env, hm, bus_of_issue hp hd hx⟩

end Sys2Proof.Machine
end

section
/-!
The words by their tag (R101): which of them write the chip's configuration, and that the word of a configuration read is never
issued (R108, R152).
-/

namespace Sys2Proof

/-- The tag of an instruction's word (R101): 11 writes the configuration, 01 reads it, 10 writes data, 00 reads data. -/
def Instr.tag : Instr → BitVec 2
  | .cfg _ _ _ _ | .pwrdn _ _ _ _ => 0b11#2
  | .rc => 0b01#2
  | .txd _ _ | .deoff => 0b10#2
  | .rd => 0b00#2

end Sys2Proof

namespace Sys2Proof.Machine

theorem tagOf_writeConfigWord (shdn st pe l : Bool) (b : BitVec 4) :
    tagOf (writeConfigWord shdn st pe l b) = 0b11#2 := by
  revert shdn st pe l b
  decide

/-- The tag stands above the other fields of a data word, which the low 14 bits hold (R104). -/
theorem tagOf_writeDataWord (te rts pt : Bool) (d : Byte) : tagOf (writeDataWord te rts pt d) = 0b10#2 := by
  apply BitVec.eq_of_getLsbD_eq
  intro j hj
  simp only [tagOf, writeDataWord, BitVec.getLsbD_extractLsb', BitVec.getLsbD_append]
  interval_cases j <;> simp

theorem tagOf_encode (i : Instr) : tagOf (encode i) = i.tag := by
  cases i with
  | cfg st pe l b => exact tagOf_writeConfigWord false st pe l b
  | pwrdn st pe l b => exact tagOf_writeConfigWord true st pe l b
  | txd pt d => exact tagOf_writeDataWord false true pt d
  | rd | deoff | rc => decide

/-- None of the five kinds the worker issues reads the configuration (R100, R108). -/
theorem tagOf_enc_ne_readConfig (k : Txn) : tagOf (enc k) ≠ 0b01#2 := by
  rw [← encode_instrOf, tagOf_encode]
  cases k <;> simp [instrOf, Instr.tag]

/-- Settles O20: the one word a step may add to the trace is that of a kind the worker issues. -/
theorem readConfigurationNeverRuns : Obligations.ReadConfigurationNeverRuns := by
  refine ⟨fun _ => rfl, fun s t h x hx => ?_⟩
  obtain hbus | ⟨k, a, -, hbus⟩ := onlySequencerWordsReachTheBus s t h
  · exact .inl (hbus ▸ hx)
  · rw [hbus, List.mem_append, List.mem_singleton] at hx
    obtain hold | rfl := hx
    · exact .inl hold
    · exact .inr (tagOf_enc_ne_readConfig k)

end Sys2Proof.Machine
end

section
/-!
The delivery to the sink in closed form: how many characters a number of calls takes, and how many calls are made before nothing
is left (R151).
-/

namespace Sys2Proof.Machine

/-- How many characters the first `j` calls of the sink would take, if the buffer were long enough (R151). -/
def sinkTakes (e : Env) (j : Nat) : Nat := ((List.range j).map (sinkAnswer e)).sum

/-- How many of at most `n` calls are made to deliver `len` characters: a call is made while some are left (R151). -/
def sinkCalls (e : Env) (n len : Nat) : Nat := (List.range n).countP fun j => decide (sinkTakes e j < len)

/-- The environment once at most `n` calls have offered `l` (R151). -/
def afterOffers (n : Nat) (l : List RxChar) (e : Env) : Env :=
  { e with sink := e.sink ++ l.take (min l.length (sinkTakes e n))
           accepts := e.accepts.drop (sinkCalls e n l.length)
           draws := e.draws + (sinkCalls e n l.length - e.accepts.length) }

theorem sinkTakes_zero (e : Env) : sinkTakes e 0 = 0 := rfl

/-- The first call, and what the later ones would take from there. -/
theorem sinkTakes_succ (e : Env) (taken : List RxChar) (j : Nat) :
    sinkTakes e (j + 1) = sinkAnswer e 0 + sinkTakes (afterAccept taken e) j := by
  have hlater : sinkAnswer (afterAccept taken e) = fun i => sinkAnswer e (i + 1) := funext (sinkAnswer_afterAccept taken e)
  simp [sinkTakes, List.range_succ_eq_map, Function.comp_def, hlater]

theorem sinkCalls_of_empty (e : Env) (n : Nat) : sinkCalls e n 0 = 0 := by simp [sinkCalls]

/-- The first call is made if a character is left, and the later ones work on what it leaves. -/
theorem sinkCalls_succ (e : Env) (taken : List RxChar) (n : Nat) {len : Nat} (h : 0 < len) :
    sinkCalls e (n + 1) len = 1 + sinkCalls (afterAccept taken e) n (len - min (sinkAnswer e 0) len) := by
  have hlater (j : Nat) : sinkTakes e (j + 1) < len ↔
      sinkTakes (afterAccept taken e) j < len - min (sinkAnswer e 0) len := by
    rw [sinkTakes_succ e taken]
    omega
  simp [sinkCalls, List.range_succ_eq_map, List.countP_map, Function.comp_def, hlater, sinkTakes_zero, h, Nat.add_comm]

/-- A call of the sink: what it took is recorded, and one answer is used up, the script's or else a free one. -/
theorem afterAccept_eq (taken : List RxChar) (e : Env) :
    afterAccept taken e =
      { e with sink := e.sink ++ taken, accepts := e.accepts.drop 1, draws := e.draws + (1 - e.accepts.length) } := by
  unfold afterAccept
  cases h : e.accepts <;> simp

/-- The calls after the first complete what all of them do. -/
theorem afterOffers_succ (n : Nat) {l : List RxChar} (e : Env) {k : Nat} (hl : 0 < l.length)
    (hk : k = min (sinkAnswer e 0) l.length) :
    afterOffers n (l.drop k) (afterAccept (l.take k) e) = afterOffers (n + 1) l e := by
  have htaken : min l.length (sinkTakes e (n + 1)) =
      k + min (l.length - k) (sinkTakes (afterAccept (l.take k) e) n) := by
    rw [sinkTakes_succ e (l.take k)]
    omega
  have hcalls : sinkCalls e (n + 1) l.length = 1 + sinkCalls (afterAccept (l.take k) e) n (l.length - k) := by
    rw [hk]
    exact sinkCalls_succ e _ n hl
  rw [afterOffers, afterOffers, htaken, hcalls, List.take_add, List.length_drop]
  generalize sinkCalls (afterAccept (l.take k) e) n (l.length - k) = calls
  generalize sinkTakes (afterAccept (l.take k) e) n = more
  rw [afterAccept_eq]
  simp only [Env.mk.injEq, List.append_assoc, List.drop_drop, List.length_drop, true_and, and_true]
  omega

/-- The offers of one delivery, with the number of calls and of characters taken (R151). -/
theorem offer_eq (n : Nat) (l : List RxChar) (e : Env) :
    offer n l e = (l.drop (min l.length (sinkTakes e n)), afterOffers n l e) := by
  induction n generalizing l e with
  | zero => simp [offer, afterOffers, sinkCalls, sinkTakes]
  | succ n ih =>
    cases l with
    | nil => simp [offer, afterOffers, sinkCalls_of_empty]
    | cons c l =>
      rw [offer, ih, nextAccept_eq, afterOffers_succ n e (by simp) rfl, List.drop_drop, List.length_drop]
      congr 2
      rw [sinkTakes_succ e ((c :: l).take (min (sinkAnswer e 0) (c :: l).length))]
      omega

/-- Settles O21: the offers in closed form, and what they leave is dropped. -/
theorem deliveryOffersAtMostSinkAttempts : Obligations.DeliveryOffersAtMostSinkAttempts := by
  intro s took n k calls
  have hoffer : offer s.board.sinkAttempts s.rxbuf s.env =
      (s.rxbuf.drop k, afterOffers s.board.sinkAttempts s.rxbuf s.env) := offer_eq _ _ _
  have hk : k ≤ n := Nat.min_le_left _ _
  by_cases hlt : k < n
  · have hleft : s.rxbuf.drop k ≠ [] := by simpa using hlt
    have hlen : (s.rxbuf.drop k).length = n - k := List.length_drop
    simp only [deliver, hoffer, hleft, if_false, hlt, if_true, hlen]
    rfl
  · have hleft : s.rxbuf.drop k = [] := by simpa using hlt
    have hnone : n - k = 0 := by omega
    simp only [deliver, hoffer, hleft, if_true, hlt, if_false, hnone, List.append_nil]
    rfl

end Sys2Proof.Machine
end

section
/-!
Each transaction's result: what follows its answer, from the state the exchange leaves (R145 to R149). Its failure is O24's
bookkeeping, but for the power-down of a requested stop.
-/

namespace Sys2Proof.Machine

/-! ### The exchange by its tag (R101, R337) -/

/-- An answered configuration write defines the chip's register (R337). -/
theorem exchanged_of_writeConfig {i : Instr} {s : State} {r : Word} (hi : i.tag = 0b11#2) (h : nextAnswer s.env = .ok r) :
    exchanged (encode i) s =
      { s with chip := .known ((encode i).extractLsb' 0 14), env := afterAnswer (encode i) s.env } := by
  have hchip : chipAfter (encode i) (.ok r) s.chip = .known ((encode i).extractLsb' 0 14) :=
    if_pos ((tagOf_encode i).trans hi)
  rw [exchanged, h, hchip]

/-- Any other answered word leaves the register (R337). -/
theorem exchanged_of_not_writeConfig {i : Instr} {s : State} {r : Word} (hi : i.tag ≠ 0b11#2) (h : nextAnswer s.env = .ok r) :
    exchanged (encode i) s = { s with env := afterAnswer (encode i) s.env } := by
  have hchip : chipAfter (encode i) (.ok r) s.chip = s.chip := if_neg (by rwa [tagOf_encode])
  rw [exchanged, h, hchip]

/-! ### CFG -/

/-- Settles O13: the answer makes the staged format the active one; the failure is the shared one. -/
theorem cfgCommitsStagedFormat : Obligations.CfgCommitsStagedFormat := by
  intro st pe l b s
  constructor
  · intro r h
    rw [exec, execCfg, commit, exchange_ok (s := setPend _ s) _ _ _ r h,
      exchanged_of_writeConfig (s := setPend _ s) rfl h, cfgOk_eq]
    rfl
  · exact fun h => failedExchangeChangesOnlyBookkeeping (.cfg st pe l b) s nofun h nofun

/-! ### PWRDN -/

/-- Settles O14: both answers end in the same shut-down state, the failed one after its log entry. -/
theorem powerDownAtStopShutsDown : Obligations.PowerDownAtStopShutsDown := by
  intro st pe l b s hstop
  constructor
  · intro r h
    rw [exec, execPwrdn, if_pos hstop, stopSequence, exchange_ok _ _ _ s r h, exchanged_of_writeConfig rfl h]
    rfl
  · intro h
    have hchip : chipAfter (encode (.pwrdn st pe l b)) .err s.chip = .unknown := rfl
    rw [exec, execPwrdn, if_pos hstop, stopSequence, exchange_err _ _ _ s h, exchanged, h, hchip]
    rfl

/-- Settles O15: the answer halts the Port; the failure sets again a flag that was never cleared. -/
theorem powerDownAtSuspendHalts : Obligations.PowerDownAtSuspendHalts := by
  intro st pe l b s hstop hsusp
  constructor
  · intro r h
    rw [exec, execPwrdn, if_neg (by simp [hstop]), if_pos hsusp, suspendStep, exchange_ok _ _ _ s r h,
      exchanged_of_writeConfig rfl h, suspendOk_eq]
    rfl
  · exact fun h => execPwrdn_of_err h hstop

/-- Settles O16: with no request pending the answer is decoded and the enable unknown. -/
theorem powerDownUnrequested : Obligations.PowerDownUnrequested := by
  intro st pe l b s hstop hsusp
  constructor
  · intro r h
    rw [exec, execPwrdn, if_neg (by simp [hstop]), if_neg (by simp [hsusp]), powerDown, exchange_ok _ _ _ s r h,
      exchanged_of_writeConfig rfl h]
    rfl
  · exact fun h => execPwrdn_of_err h hstop

/-! ### RD -/

theorem exec_rd_of_ok {s : State} {r : Word} (h : nextAnswer s.env = .ok r) :
    exec .rd s = .next (rdOk r { s with env := afterAnswer (encode .rd) s.env }) := by
  rw [exec, execRd, readData, exchange_ok _ _ _ s r h, exchanged_of_not_writeConfig (by decide) h]

/-- A response without a character ends the drain, delivered (R241). -/
theorem drainNext_of_empty {s : State} {k : Nat} {r : Word} (hp : s.phase = .drain k) (hr : respR r = false) :
    drainNext r s = goto .tx (deliver s) := by
  simp [drainNext, hp, hr]

/-- Below the bound a character lets the drain go on (R241). -/
theorem drainNext_of_below {s : State} {k : Nat} {r : Word} (hp : s.phase = .drain k) (hr : respR r = true)
    (hk : k + 1 < s.board.rxDrainMax) : drainNext r s = goto (.drain (k + 1)) s := by
  simp [drainNext, hp, hr, hk]

/-- At the bound the drain ends, delivered, and asks for another (R150, R241). -/
theorem drainNext_of_bound {s : State} {k : Nat} {r : Word} (hp : s.phase = .drain k) (hr : respR r = true)
    (hk : s.board.rxDrainMax ≤ k + 1) :
    drainNext r s = goto .tx (deliver (setPend (fun p => { p with rxp := true }) s)) := by
  simp [drainNext, hp, hr, Nat.not_lt.2 hk]

/-- Outside a drain nothing follows a read (log entry 6). -/
theorem drainNext_of_not_drain {s : State} (r : Word) (hp : ∀ k, s.phase ≠ .drain k) : drainNext r s = s := by
  unfold drainNext
  split
  next k hk => exact absurd hk (hp k)
  next => rfl

/-- Settles O17: the response is taken in, and the drain goes where R241 says. -/
theorem readDataDrainsOneCharacter : Obligations.ReadDataDrainsOneCharacter := by
  intro s
  constructor
  · intro r h u c v
    have hempty (hr : respR r = false) : exec .rd s = .next (drainNext r u) := by
      rw [exec_rd_of_ok h, rdOk, capture_quiet _ _ _ hr]
      rfl
    have hchar (hr : respR r = true) : exec .rd s = .next (drainNext r v) := by
      rw [exec_rd_of_ok h, rdOk, capture_drain _ _ hr, collect_eq]
      rfl
    refine ⟨fun k hp => ⟨fun hr => ?_, fun hr hk => ?_, fun hr hk => ?_⟩, fun hp => ?_⟩
    · rw [hempty hr, drainNext_of_empty (s := u) hp hr]
      rfl
    · rw [hchar hr, drainNext_of_below (s := v) hp hr hk]
      rfl
    · rw [hchar hr, drainNext_of_bound (s := v) hp hr hk]
      rfl
    · cases hr : r.getLsbD 15 with
      | false => rw [hempty hr, drainNext_of_not_drain (s := u) r hp]; rfl
      | true => rw [hchar hr, drainNext_of_not_drain (s := v) r hp]; rfl
  · exact fun h => failedExchangeChangesOnlyBookkeeping .rd s nofun h nofun

/-! ### TXD and DEOFF -/

/-- A character in the response to a word sent: collected, another drain asked for, and delivered at once (R143). -/
theorem capture_direct_of_char {r : Word} (s : State) (h : respR r = true) :
    capture r false s =
      deliver { s with pend := { s.pend with rxp := true }, rxbuf := s.rxbuf ++ [classify s.board.feReport s.fmt r]
                       ctr := s.ctr.received (classify s.board.feReport s.fmt r).flag
                       log := s.log ++ (rxEvents (classify s.board.feReport s.fmt r)).map
                         fun ev => { event := ev, time := s.now } } := by
  rw [capture_direct r s h, collect_eq]
  rfl

theorem exec_txd_of_ok {pt : Bool} {d : Byte} {s : State} {r : Word} (h : nextAnswer s.env = .ok r) :
    exec (.txd pt d) s = .next (txdOk r { s with env := afterAnswer (encode (.txd pt d)) s.env }) := by
  rw [exec, execTxd, transmit, exchange_ok _ _ _ s r h, exchanged_of_not_writeConfig (by simp [Instr.tag]) h]

theorem exec_deoff_of_ok {s : State} {r : Word} (h : nextAnswer s.env = .ok r) :
    exec .deoff s = .next (deoffOk r { s with env := afterAnswer (encode .deoff) s.env }) := by
  rw [exec, execDeoff, dropEnable, exchange_ok _ _ _ s r h, exchanged_of_not_writeConfig (by decide) h]

/-- R204: the deadline is the later of itself and the completion, and the hold more. -/
theorem recordTx_eq (t : Nat) (s : State) : recordTx t s = { s with tc := t, dl := max s.dl t + s.hold } := by
  have hdl : (if t < s.dl then s.dl + s.hold else t + s.hold) = max s.dl t + s.hold := by split <;> omega
  rw [recordTx, hdl]

/-- R209: the outcome is written where a disable was armed or pending. -/
theorem cancelDisable_eq (s : State) :
    cancelDisable s =
      { s with outcome := if s.os.isSome || s.pend.dis then some .superseded else s.outcome
               os := none, pend := { s.pend with dis := false } } := by
  unfold cancelDisable
  cases s.os <;> simp

theorem sent_eq (s : State) :
    sent s =
      { s with tail := (s.tail + 1) % s.board.xmitCap, ctr := { s.ctr with ntx := s.ctr.ntx + 1 }, de := .on
               outcome := if s.os.isSome || s.pend.dis then some .superseded else s.outcome
               os := none, pend := { s.pend with dis := false }
               tc := s.now, dl := max s.dl s.now + s.hold } := by
  rw [sent, cancelDisable_eq, recordTx_eq]
  rfl

/-- Settles O18: the transmit's records, and then its response as for any word sent. -/
theorem transmitSendsOneCharacter : Obligations.TransmitSendsOneCharacter := by
  intro pt d s
  constructor
  · intro r h u c v
    have hsent : exec (.txd pt d) s = .next (goto .tx (capture r false u)) := by
      rw [exec_txd_of_ok h, txdOk_eq, sent_eq]
      rfl
    constructor <;> intro hr
    · rw [hsent, capture_quiet _ _ _ hr]
      rfl
    · rw [hsent, capture_direct_of_char _ hr]
      rfl
  · exact fun h => failedExchangeChangesOnlyBookkeeping (.txd pt d) s nofun h nofun

/-- Settles O19: the dropped enable, and then the response as for any word sent. -/
theorem disableDropsTheEnable : Obligations.DisableDropsTheEnable := by
  intro s
  constructor
  · intro r h u c v
    have hdropped : exec .deoff s = .next (goto .top (capture r false u)) := by
      rw [exec_deoff_of_ok h, deoffOk]
      rfl
    constructor <;> intro hr
    · rw [hdropped, capture_quiet _ _ _ hr]
      rfl
    · rw [hdropped, capture_direct_of_char _ hr]
      rfl
  · exact fun h => failedExchangeChangesOnlyBookkeeping .deoff s nofun h nofun

/-! ### What all transactions share -/

/-- Where a drain goes next is a matter of its phase, one flag and delivery (R241). -/
theorem drainNext_frame (r : Word) (s : State) :
    ∃ p f l c g e, e.agenda = s.env.agenda ∧
      drainNext r s = { s with phase := p, pend := f, rxbuf := l, ctr := c, log := g, env := e } := by
  by_cases hp : ∃ k, s.phase = .drain k
  · obtain ⟨k, hp⟩ := hp
    obtain ⟨-, h⟩ | ⟨-, -, h⟩ | ⟨-, h⟩ := drainNext_cases r hp <;> rw [h]
    · exact ⟨_, _, _, _, _, _, deliver_agenda s, congrArg (goto .tx) (deliver_frame s)⟩
    · exact ⟨_, _, _, _, _, _, rfl, rfl⟩
    · exact ⟨_, _, _, _, _, _, deliver_agenda (setPend _ s), congrArg (goto .tx) (deliver_frame (setPend _ s))⟩
  · rw [drainNext_of_not_drain r (not_exists.1 hp)]
    exact ⟨_, _, _, _, _, _, rfl, rfl⟩

/-- An exchange leaves the agenda if what follows each of its answers does. -/
theorem agenda_exchange {w : Word} {onErr : State → State} {onOk : Word → State → State} {s : State}
    (hErr : ∀ u, (onErr u).env.agenda = u.env.agenda) (hOk : ∀ r u, (onOk r u).env.agenda = u.env.agenda) :
    (exchange w onErr onOk s).env.agenda = s.env.agenda := by
  have hEx : (exchanged w s).env.agenda = s.env.agenda := afterAnswer_agenda w s.env
  obtain ⟨-, e⟩ | ⟨r, -, e⟩ := exchange_cases w onErr onOk s
  · rw [e, hErr, hEx]
  · rw [e, hOk, hEx]

theorem agenda_rdOk (r : Word) (s : State) : (rdOk r s).env.agenda = s.env.agenda := by
  obtain ⟨p, f, l, c, g, e, he, h⟩ := drainNext_frame r (capture r true (decodeData r (decodeStatus r s)))
  rw [rdOk, h]
  exact he.trans (capture_agenda r true _)

/-- No transaction chooses who moves next (R80). -/
theorem agenda_of_exec {i : Instr} {s t : State} (h : exec i s = .next t) : t.env.agenda = s.env.agenda := by
  cases i with
  | cfg st pe l b => cases h; exact agenda_exchange (s := setPend _ s) (fun _ => rfl) fun _ _ => rfl
  | pwrdn st pe l b =>
    cases h
    split
    · exact agenda_exchange (fun _ => rfl) fun _ _ => rfl
    · split <;> exact agenda_exchange (fun _ => rfl) fun _ _ => rfl
  | rd => cases h; exact agenda_exchange (fun _ => rfl) agenda_rdOk
  | txd pt d => cases h; exact agenda_exchange (fun _ => rfl) fun r _ => capture_agenda r false _
  | deoff => cases h; exact agenda_exchange (fun _ => rfl) fun r _ => capture_agenda r false _
  | rc => cases h

/-- Every word but RC completes, in every state (R140, R153). -/
theorem exec_completes {i : Instr} (hi : i ≠ .rc) (s : State) : ∃ t, exec i s = .next t := by
  cases i with
  | rc => exact absurd rfl hi
  | cfg | pwrdn | rd | txd | deoff => exact ⟨_, rfl⟩

/-- Settles O22: the trace of each kind is the one the enable's frame gives. -/
theorem everyTransactionIsOneExchange : Obligations.EveryTransactionIsOneExchange := by
  intro i s hi
  obtain ⟨t, h⟩ := exec_completes hi s
  obtain ⟨-, hbus⟩ := enableStep_of_exec h
  exact ⟨t, h, hbus, agenda_of_exec h⟩

/-- The status bits after a response: two of every word, and the clear-to-send of a data-class one (R141, R142). -/
def StatusFrom (i : Instr) (r : Word) (s t : State) : Prop :=
  t.txe = respT r ∧ t.rxa = respR r ∧ t.cts = if dataClass i then respCTS r else s.cts

theorem statusFrom_rdOk (r : Word) (s u : State) : StatusFrom .rd r s (rdOk r u) := by
  obtain ⟨p, f, l, c, g, e, -, h⟩ := drainNext_frame r (capture r true (decodeData r (decodeStatus r u)))
  rw [rdOk, h]
  exact ⟨capture_txe r true _, capture_rxa r true _, capture_cts r true _⟩

/-- A response to a word sent is decoded before it is captured, and a capture leaves the status (R143). -/
theorem statusFrom_capture_direct {i : Instr} (hi : dataClass i = true) (p : Phase) (r : Word) (s u : State) :
    StatusFrom i r s (goto p (capture r false (decodeData r (decodeStatus r u)))) := by
  rw [StatusFrom, hi]
  exact ⟨capture_txe r false _, capture_rxa r false _, capture_cts r false _⟩

/-- An answered exchange leaves those status bits if what follows the answer does, from any state with the same clear-to-send. -/
theorem statusFrom_exchange {i : Instr} {w : Word} {onErr : State → State} {onOk : Word → State → State} {s : State} {r : Word}
    (ha : nextAnswer s.env = .ok r) (hOk : ∀ u, u.cts = s.cts → StatusFrom i r s (onOk r u)) :
    StatusFrom i r s (exchange w onErr onOk s) := by
  rw [exchange_ok w onErr onOk s r ha]
  exact hOk _ (exchanged_cts w s)

theorem statusFrom_of_exec {i : Instr} {s t : State} {r : Word} (ha : nextAnswer s.env = .ok r) (h : exec i s = .next t) :
    StatusFrom i r s t := by
  cases i with
  | cfg st pe l b =>
    cases h
    exact statusFrom_exchange (s := setPend _ s) ha fun u hu => ⟨rfl, rfl, hu⟩
  | pwrdn st pe l b =>
    cases h
    split
    · exact statusFrom_exchange ha fun u hu => ⟨rfl, rfl, hu⟩
    · split <;> exact statusFrom_exchange ha fun u hu => ⟨rfl, rfl, hu⟩
  | rd => cases h; exact statusFrom_exchange ha fun u _ => statusFrom_rdOk r s u
  | txd pt d => cases h; exact statusFrom_exchange ha fun _ _ => statusFrom_capture_direct rfl .tx r s _
  | deoff => cases h; exact statusFrom_exchange ha fun _ _ => statusFrom_capture_direct rfl .top r s _
  | rc => cases h

/-- Settles O23: every kind completes, and its answer leaves those status bits. -/
theorem statusDecodedFromEveryAnswer : Obligations.StatusDecodedFromEveryAnswer := by
  intro i s r hi ha
  obtain ⟨t, h⟩ := exec_completes hi s
  exact ⟨t, h, statusFrom_of_exec ha h⟩

end Sys2Proof.Machine
end

section
/-!
A received character: its parity is that of a count of 1 bits (R171, R173, R174), which settles its flag (R144).
-/

namespace Sys2Proof.Machine

theorem popcount_eq_sum (v : Byte) :
    popcount v = (v.getLsbD 0).toNat + (v.getLsbD 1).toNat + (v.getLsbD 2).toNat + (v.getLsbD 3).toNat +
      (v.getLsbD 4).toNat + (v.getLsbD 5).toNat + (v.getLsbD 6).toNat + (v.getLsbD 7).toNat := by
  change [0, 1, 2, 3, 4, 5, 6, 7].countP (fun i => v.getLsbD i) = _
  simp only [List.countP_cons, List.countP_nil, Bool.toNat, Bool.cond_eq_ite, Nat.zero_add]
  ac_rfl

/-- The number of 1 bits among the data bits of a response, at each word length (R170). -/
theorem popcount_data (wl : WordLen) (r : Word) :
    popcount (r.extractLsb' 0 8 &&& mask wl) =
      (r.getLsbD 0).toNat + (r.getLsbD 1).toNat + (r.getLsbD 2).toNat + (r.getLsbD 3).toNat + (r.getLsbD 4).toNat +
        (r.getLsbD 5).toNat + (r.getLsbD 6).toNat + (if wl = .eight then (r.getLsbD 7).toNat else 0) := by
  rw [popcount_eq_sum]
  cases wl <;> simp [mask]

/-- A parity bit agrees with the received one exactly when the count with that bit is even, or odd (R174). -/
theorem beq_parity_iff (b odd : Bool) (n : Nat) :
    (b == (odd ^^ (n % 2 == 1))) = true ↔ (n + b.toNat) % 2 = if odd then 1 else 0 := by
  have hn : n % 2 = 0 ∨ n % 2 = 1 := by omega
  obtain hn | hn := hn <;> cases b <;> cases odd <;> simp [hn, Nat.add_mod]

/-- Masking a character twice is masking it once (R170). -/
theorem and_mask_mask (c : Byte) (wl : WordLen) : c &&& mask wl &&& mask wl = c &&& mask wl := by
  rw [BitVec.and_assoc, BitVec.and_self]

/-- R173 by counting: without a parity mode every response passes, under one the count must be even, or odd. -/
theorem checkParity_iff (f : Format) (r : Word) :
    checkParity f r = true ↔ f.par = .none ∨
      (popcount (r.extractLsb' 0 8 &&& mask f.wlen) + (r.getLsbD 8).toNat) % 2 = if f.par = .odd then 1 else 0 := by
  unfold checkParity parityBit
  by_cases hpar : f.par = .none
  · simp [hpar]
  · rw [if_neg hpar, and_mask_mask, beq_parity_iff]
    simp [hpar]

/-- R144 without a reported framing error: the parity check settles the flag. -/
theorem classify_flag_of_unframed {fe : Bool} (f : Format) {r : Word} (h : fe = false ∨ r.getLsbD 10 = false) :
    (classify fe f r).flag = if checkParity f r then .normal else .parityError := by
  have hfe : (fe && respFE r) = false := Bool.and_eq_false_iff.2 h
  have hnone : f.par = .none → checkParity f r = true := fun hp => (checkParity_iff f r).2 (.inl hp)
  cases hc : checkParity f r with
  | true => simp [classify, hfe, hc]
  | false => simp [classify, hfe, hc, mt hnone (by simp [hc])]

/-- Settles O12: a reported framing error comes first, and the parity check counts bits. -/
theorem classifyFlagsACharacter : Obligations.ClassifyFlagsACharacter := by
  intro fe f r
  refine ⟨?_, fun hfe hr => ?_, fun h => ?_⟩
  · unfold classify respD mask
    cases f.wlen <;> rfl
  · simp [classify, respFE, hfe, hr]
  · rw [classify_flag_of_unframed f h]
    simp only [checkParity_iff, popcount_data]

end Sys2Proof.Machine
end

section
/-!
The parity both ways: the parity bit makes the count of 1 bits even or odd (R174), and the receiver checks what the sender applies
(R185).
-/

namespace Sys2Proof.Machine

/-- The number of 1 bits among the data bits of a character, at each word length (R170). -/
theorem popcount_and_mask (c : Byte) (wl : WordLen) :
    popcount (c &&& mask wl) =
      (c.getLsbD 0).toNat + (c.getLsbD 1).toNat + (c.getLsbD 2).toNat + (c.getLsbD 3).toNat + (c.getLsbD 4).toNat +
        (c.getLsbD 5).toNat + (c.getLsbD 6).toNat + (if wl = .eight then (c.getLsbD 7).toNat else 0) := by
  have hdata : (c.setWidth 16).extractLsb' 0 8 = c := by
    rw [← BitVec.setWidth_eq_extractLsb' (by decide), BitVec.setWidth_setWidth_of_le c (by decide), BitVec.setWidth_eq]
  simpa only [hdata, BitVec.getLsbD_setWidth, Nat.reduceLT, decide_true, Bool.true_and] using popcount_data wl (c.setWidth 16)

/-- Settles O7: the parity bit agrees with itself, so the count with it is even, or odd. -/
theorem parityBitMakesCountEvenOrOdd : Obligations.ParityBitMakesCountEvenOrOdd := by
  intro c wl odd
  rw [← popcount_and_mask]
  exact (beq_parity_iff (parityBit c wl odd) odd _).1 (beq_self_eq_true _)

/-- The parity bit is that of the data bits alone (R171). -/
theorem parityBit_and_mask (c : Byte) (wl : WordLen) (odd : Bool) : parityBit (c &&& mask wl) wl odd = parityBit c wl odd := by
  rw [parityBit, and_mask_mask, parityBit]

/-- Bit 8 of a word with a parity bit laid over a character (R109). -/
theorem getLsbD_parity_character (p : Bool) (d : Byte) : (bitAt p 8 ||| d.setWidth 16).getLsbD 8 = p := by
  simp [bitAt]

/-- Bits 7 to 0 of a word with a parity bit laid over a character (R109). -/
theorem extractLsb'_parity_character (p : Bool) (d : Byte) : (bitAt p 8 ||| d.setWidth 16).extractLsb' 0 8 = d := by
  apply BitVec.eq_of_getLsbD_eq
  intro j hj
  have hj16 : j < 16 := by omega
  simp [bitAt, hj, hj16]

/-- The receiver's check of the data bits the sender applies, under any parity bit: without a parity mode it passes, under one it
asks for the bit the sender applies (R172, R173). -/
theorem checkParity_applied_data (f : Format) (c : Byte) (p : Bool) :
    checkParity f (bitAt p 8 ||| (applyParity f c).1.setWidth 16) = (decide (f.par = .none) || p == (applyParity f c).2) := by
  rw [checkParity, getLsbD_parity_character, extractLsb'_parity_character]
  by_cases hpar : f.par = .none
  · simp [hpar]
  · simp [hpar, applyParity, parityBit_and_mask]

/-- Settles O6: the applied bit is the one asked for, and its flip is not. -/
theorem parityRoundTrips : Obligations.ParityRoundTrips := by
  intro f c
  refine ⟨(checkParity_applied_data f c _).trans ?_, (checkParity_applied_data f c _).trans ?_⟩
  · rw [beq_self_eq_true, Bool.or_true]
  · rw [Bool.not_beq_self, Bool.or_false]

end Sys2Proof.Machine
end

section
/-!
The baud lookup goes down the table row by row (R175), and a format request resolves field by field (R179): a lemma a field, with
its value and its report.
-/

namespace Sys2Proof.Machine

/-! ### The lookup in a table -/

@[simp] theorem baudToChipCode_nil (b : Nat) (x : Config.Crystal) : baudToChipCode [] b x = none := rfl

@[simp] theorem baudToChipCode_cons (row : Config.BaudRow) (table : Config.BaudTable) (b : Nat) (x : Config.Crystal) :
    baudToChipCode (row :: table) b x = if b = row.rate then rowCode row x else baudToChipCode table b x := by
  by_cases h : b = row.rate
  · simp [baudToChipCode, h]
  · simp [baudToChipCode, h, Ne.symm h]

/-- Without two rows for one rate, the lookup finds a listed row (R175). -/
theorem baudToChipCode_of_mem {table : Config.BaudTable} {row : Config.BaudRow} (x : Config.Crystal) (hmem : row ∈ table)
    (hdistinct : table.Pairwise (fun a b => a.rate ≠ b.rate)) : baudToChipCode table row.rate x = rowCode row x := by
  induction hdistinct with
  | nil => cases hmem
  | @cons first rest hfirst _ ih =>
    rw [baudToChipCode_cons]
    obtain rfl | hrest := List.mem_cons.1 hmem
    · rw [if_pos rfl]
    · rw [if_neg (hfirst row hrest).symm, ih hrest]

/-- The codes of one rate under both oscillators come from one row (R176). -/
theorem exists_row_of_both_codes {table : Config.BaudTable} {b : Nat} {c d : BitVec 4}
    (hslow : baudToChipCode table b .slow = some c) (hfast : baudToChipCode table b .fast = some d) :
    ∃ row ∈ table, row.slow = some c ∧ row.fast = some d := by
  obtain ⟨row, hfind, hc⟩ := Option.bind_eq_some_iff.1 hslow
  obtain ⟨row', hfind', hd⟩ := Option.bind_eq_some_iff.1 hfast
  obtain rfl : row = row' := Option.some.inj (hfind.symm.trans hfind')
  exact ⟨row, List.mem_of_find?_eq_some hfind, hc, hd⟩

/-- In each row of the default table with two codes, the fast one is one above the slow one (R176). -/
theorem fast_code_eq_slow_add_one :
    ∀ row ∈ Config.baudTable, ∀ c d, row.slow = some c → row.fast = some d → d = c + 1#4 := by
  decide

/-- Settles O9: down the default table row by row, and by the row found for the laws. The rate 230400 has no slow code and 300
no fast one. -/
theorem baudTableValues : Obligations.BaudTableValues := by
  refine ⟨fun b => ?_, fun b => ?_, fun b c d hslow hfast => ?_, fun table row x hmem hdistinct => ?_⟩
  · simp only [Config.baudTable, baudToChipCode_cons, baudToChipCode_nil, rowCode, ite_self]
    rfl
  · by_cases h300 : b = 300
    · subst h300
      rfl
    · simp only [Config.baudTable, baudToChipCode_cons, baudToChipCode_nil, rowCode, if_neg h300]
      rfl
  · obtain ⟨row, hrow, hc, hd⟩ := exists_row_of_both_codes hslow hfast
    exact fast_code_eq_slow_add_one row hrow c d hc hd
  · rw [baudToChipCode_of_mem x hmem hdistinct]
    cases x <;> rfl

/-! ### The fields of a format request -/

theorem resolveBaud_of_code {p : Config.Board} {b : Nat} {c : BitVec 4} (g : Format) (h : codeOf p b = some c) :
    resolveBaud p b g = ((b, c), []) := by
  simp only [resolveBaud, h]

theorem resolveBaud_of_no_code {p : Config.Board} {b : Nat} (g : Format) (h : codeOf p b = none) :
    resolveBaud p b g = ((g.baud, g.code), [.baud b]) := by
  simp only [resolveBaud, h]

/-- The rate is reported exactly when the table has no code for it (R175, R179). -/
theorem resolveBaud_fallbacks (p : Config.Board) (b : Nat) (g : Format) :
    (resolveBaud p b g).2 = if codeOf p b = none then [.baud b] else [] := by
  cases h : codeOf p b with
  | none => rw [resolveBaud_of_no_code g h, if_pos rfl]
  | some c => rw [resolveBaud_of_code g h, if_neg nofun]

theorem resolveWlen_eq (n : Nat) (g : Format) :
    resolveWlen n g =
      (if n = 7 then .seven else if n = 8 then .eight else g.wlen, if n = 7 ∨ n = 8 then [] else [.wlen n]) := by
  by_cases h7 : n = 7
  · simp [resolveWlen, h7]
  by_cases h8 : n = 8
  · simp [resolveWlen, h8]
  · simp [resolveWlen, h7, h8]

theorem resolvePar_fallbacks (p : ReqParity) (g : Format) : (resolvePar p g).2 = if p = .other then [.par] else [] := by
  cases p with
  | mode m => rw [if_neg nofun, resolvePar]
  | other => rfl

theorem resolveStop_eq (n : Nat) (g : Format) :
    resolveStop n g = (if n = 1 then .one else if n = 2 then .two else g.stop, if n = 1 ∨ n = 2 then [] else [.stop n]) := by
  by_cases h1 : n = 1
  · simp [resolveStop, h1]
  by_cases h2 : n = 2
  · simp [resolveStop, h2]
  · simp [resolveStop, h1, h2]

/-- An unsupported rate leaves the staged rate and code, whatever the other fields ask (R179, R184). -/
theorem resolve_baud_of_no_code {p : Config.Board} {b : Nat} (h : codeOf p b = none) (w : Nat) (par : ReqParity) (st : Nat)
    (g : Format) : (resolve p b w par st g).1.baud = g.baud ∧ (resolve p b w par st g).1.code = g.code := by
  simp [resolve, resolveBaud_of_no_code g h]

/-- Settles O10: each field and its report by that field's lemma. -/
theorem resolveFallsBackFieldByField : Obligations.ResolveFallsBackFieldByField := by
  intro board b w p st g
  refine ⟨fun c hc => ?_, fun hnone => resolve_baud_of_no_code hnone w p st g, ?_, ?_, ?_, ?_, ?_, fun hg => ?_⟩
  · simp [resolve, resolveBaud_of_code g hc]
  · rw [resolve, resolveWlen_eq]
  · rintro m rfl
    rfl
  · rintro rfl
    rfl
  · rw [resolve, resolveStop_eq]
  · rw [resolve, resolveBaud_fallbacks, resolveWlen_eq, resolvePar_fallbacks, resolveStop_eq]
    rfl
  · exact formatOk_resolve hg b w p st

/-- Settles O11: the second request falls back to what the first one fell back to. -/
theorem unsupportedRateTwiceSameFallback : Obligations.UnsupportedRateTwiceSameFallback := by
  intro board b w w' p p' st st' g hnone
  obtain ⟨hbaud1, hcode1⟩ := resolve_baud_of_no_code hnone w p st g
  obtain ⟨hbaud2, hcode2⟩ := resolve_baud_of_no_code hnone w' p' st' (resolve board b w p st g).1
  exact ⟨hbaud1, hcode1, hbaud2.trans hbaud1, hcode2.trans hcode1⟩

end Sys2Proof.Machine
end

section
/-!
The length of a character and the hold (R178, R200, R201): the rates of R176 bound the bit time from below, and what the floor
division leaves of a second is the remainder.
-/

namespace Sys2Proof.Machine

/-- R178 spelled out: start, data, parity and stop bits. -/
theorem bitsPerChar_eq (f : Format) :
    bitsPerChar f = 1 + (match f.wlen with | .seven => 7 | .eight => 8) +
      (match f.par with | .none => 0 | .even => 1 | .odd => 1) + (match f.stop with | .one => 1 | .two => 2) := by
  unfold bitsPerChar
  cases f.par <;> rfl

theorem WordLen.bits_bounds (w : WordLen) : 7 ≤ WordLen.bits w ∧ WordLen.bits w ≤ 8 := by cases w <;> decide

theorem StopBits.bits_bounds (b : StopBits) : 1 ≤ StopBits.bits b ∧ StopBits.bits b ≤ 2 := by cases b <;> decide

/-- From seven data bits and one stop bit without parity, to eight and two with it (R178). -/
theorem bitsPerChar_bounds (f : Format) : 9 ≤ bitsPerChar f ∧ bitsPerChar f ≤ 12 := by
  have hdata := WordLen.bits_bounds f.wlen
  have hstop := StopBits.bits_bounds f.stop
  unfold bitsPerChar
  split <;> omega

/-- A rate with a code is a row's rate (R175). -/
theorem exists_row_of_code {table : Config.BaudTable} {b : Nat} {x : Config.Crystal} {c : BitVec 4}
    (h : baudToChipCode table b x = some c) : ∃ row ∈ table, row.rate = b := by
  obtain ⟨row, hfind, -⟩ := Option.bind_eq_some_iff.1 h
  have hrate : (row.rate == b) = true := List.find?_some (p := fun row : Config.BaudRow => row.rate == b) hfind
  exact ⟨row, List.mem_of_find?_eq_some hfind, beq_iff_eq.1 hrate⟩

theorem baudTable_rate_bounds : ∀ row ∈ Config.baudTable, 0 < row.rate ∧ row.rate ≤ 230400 := by
  decide

/-- Under the table of R176 a supported format has one of its rates. -/
theorem FormatOk.baud_bounds {p : Config.Board} {f : Format} (hp : p.baudTable = Config.baudTable) (hf : FormatOk p f) :
    0 < f.baud ∧ f.baud ≤ 230400 := by
  obtain ⟨row, hrow, hrate⟩ := exists_row_of_code hf
  rw [← hrate]
  exact baudTable_rate_bounds row (hp ▸ hrow)

/-- The bit time at the fastest rate bounds every one from below (R176, R200). -/
theorem FormatOk.bitTime_ge {p : Config.Board} {f : Format} (hp : p.baudTable = Config.baudTable) (hf : FormatOk p f) :
    4340 ≤ bitTime f.baud := by
  obtain ⟨hpos, hmax⟩ := hf.baud_bounds hp
  calc 4340 ≤ 1000000000 / 230400 := by decide
    _ ≤ bitTime f.baud := Nat.div_le_div_left hmax hpos

theorem FormatOk.holdNs_ge {p : Config.Board} {f : Format} (hp : p.baudTable = Config.baudTable) (hf : FormatOk p f) :
    39060 ≤ holdNs f := by
  obtain ⟨hbits, -⟩ := bitsPerChar_bounds f
  exact Nat.mul_le_mul (hf.bitTime_ge hp) hbits

/-- What the hold falls short of the exact character time, at any rate: the remainder, once a bit (R200, R201). -/
theorem holdNs_mul_baud_add (f : Format) :
    holdNs f * f.baud + bitsPerChar f * (1000000000 % f.baud) = bitsPerChar f * 1000000000 :=
  calc holdNs f * f.baud + bitsPerChar f * (1000000000 % f.baud)
      = bitsPerChar f * (f.baud * (1000000000 / f.baud) + 1000000000 % f.baud) := by
        rw [holdNs, bitTime]
        ring
    _ = bitsPerChar f * 1000000000 := by rw [Nat.div_add_mod]

/-- Settles O8: the bits by the parity mode, the bounds from the rates of the table. -/
theorem holdIsPositiveAndAlmostExact : Obligations.HoldIsPositiveAndAlmostExact := by
  refine ⟨fun f => ⟨bitsPerChar_eq f, rfl⟩, fun p f hp hf => ?_⟩
  obtain ⟨hmin, hmax⟩ := bitsPerChar_bounds f
  obtain ⟨hpos, -⟩ := hf.baud_bounds hp
  exact ⟨hf.bitTime_ge hp, hmin, hmax, hf.holdNs_ge hp, holdNs_mul_baud_add f, Nat.mod_lt _ hpos⟩

end Sys2Proof.Machine
end

section
/-!
The one-shot and the disable it asks for: when the timer fires (R207), the branches of the evaluation (R208), and the word that
only its last branch issues (R211, R212).
-/

namespace Sys2Proof.Machine

/-! ### One step by its agent -/

theorem step_of_worker {s : State} (ha : s.attached = true) (hm : nextMove s.env = .worker) :
    step s = runPlan (workerPlan s.chosen) := by
  simp [step, ha, hm]

theorem step_of_fire {s : State} (ha : s.attached = true) (hm : nextMove s.env = .fire) :
    step s = .next (fire s.chosen) := by
  simp [step, ha, hm, producerStep]

/-- A planned transaction runs its own kind's instruction (R109, R230). -/
theorem runPlan_issue (k : Txn) (u : State) : runPlan (.issue k u) = exec (instrOf k) u := by
  simp only [runPlan, fetched, decodeWord_enc]

/-! ### The one-shot (R207) -/

theorem fire_of_due {s : State} {d : Nat} (hos : s.os = some d) (hd : d ≤ s.now) :
    fire s = setAndWake (fun p => { p with dis := true }) { s with os := none } := by
  simp [fire, hos, hd]

theorem fire_of_early {s : State} {d : Nat} (hos : s.os = some d) (hd : s.now < d) : fire s = s := by
  simp [fire, hos, Nat.not_le.2 hd]

theorem fire_of_disarmed {s : State} (hos : s.os = none) : fire s = s := by
  simp [fire, hos]

/-- Settles O35: due, early and disarmed. -/
theorem oneShotFiresWhenDue : Obligations.OneShotFiresWhenDue := by
  intro s ha hm
  rw [step_of_fire ha hm]
  refine ⟨fun d hos hd => ?_, fun d hos hd => ?_, fun hos => ?_⟩
  · rw [fire_of_due (s := s.chosen) hos hd]
    rfl
  · rw [fire_of_early (s := s.chosen) hos hd]
    rfl
  · rw [fire_of_disarmed (s := s.chosen) hos]
    rfl

/-! ### The disable evaluation (R208) -/

/-- At `Top` a pending disable is evaluated where no request and no halted line stands before it (R234, R236). -/
theorem workerPlan_of_disable {s : State} (hp : s.phase = .top) (hstop : s.pend.stop = false) (hsusp : s.pend.susp = false)
    (hl : s.line ≠ .suspended) (hdis : s.pend.dis = true) : workerPlan s = disableEvaluation s := by
  simp [workerPlan, hp, topPlan, hstop, hsusp, hl, hdis]

/-- Something to send supersedes the disable and disarms the one-shot. -/
theorem disableEvaluation_of_busy {s : State} (h : s.pend.txs = true ∨ s.head ≠ s.tail) :
    disableEvaluation s = .silent (supersede { setPend (fun p => { p with dis := false }) s with os := none }) := by
  have hbusy : (s.pend.txs || !qEmpty s) = true := by simpa [qEmpty] using h
  exact if_pos hbusy

/-- An enable already off supersedes the disable. -/
theorem disableEvaluation_of_off {s : State} (htxs : s.pend.txs = false) (hq : s.head = s.tail) (hde : s.de = .off) :
    disableEvaluation s = .silent (supersede (setPend (fun p => { p with dis := false }) s)) := by
  simp [disableEvaluation, qEmpty, htxs, hq, hde]

/-- Before the deadline the one-shot is armed again. -/
theorem disableEvaluation_of_early {s : State} (htxs : s.pend.txs = false) (hq : s.head = s.tail) (hde : s.de ≠ .off)
    (hdl : s.now < s.dl) :
    disableEvaluation s =
      .silent (goto .top { setPend (fun p => { p with dis := false }) s with os := some s.dl }) := by
  simp [disableEvaluation, qEmpty, htxs, hq, hde, hdl]

/-- Otherwise the disable word is issued. -/
theorem disableEvaluation_of_due {s : State} (htxs : s.pend.txs = false) (hq : s.head = s.tail) (hde : s.de ≠ .off)
    (hdl : s.dl ≤ s.now) :
    disableEvaluation s = .issue .deoff (setPend (fun p => { p with dis := false }) s) := by
  simp [disableEvaluation, qEmpty, htxs, hq, hde, Nat.not_lt.2 hdl]

/-- Settles O30: the step is the evaluation, branch by branch. -/
theorem disableEvaluationBranches : Obligations.DisableEvaluationBranches := by
  intro s ha hm hp hstop hsusp hl hdis
  rw [step_of_worker ha hm, workerPlan_of_disable (s := s.chosen) hp hstop hsusp hl hdis]
  refine ⟨fun hbusy => ?_, fun htxs hq hde => ?_, fun htxs hq hde hdl => ?_, fun htxs hq hde hdl => ?_⟩
  · rw [disableEvaluation_of_busy (s := s.chosen) hbusy]
    rfl
  · rw [disableEvaluation_of_off (s := s.chosen) htxs hq hde]
    rfl
  · rw [disableEvaluation_of_early (s := s.chosen) htxs hq hde hdl]
    rfl
  · rw [disableEvaluation_of_due (s := s.chosen) htxs hq hde hdl, runPlan_issue]
    rfl

/-! ### The disable word (R211, R212) -/

theorem eq_deoff_of_enc {k : Txn} (h : enc k = 0x8400#16) : k = .deoff := by
  have hi : instrOf k = instrOf .deoff := instrOf_eq_of_enc_eq h
  cases k with
  | deoff => rfl
  | cfg | pwrdn | rd | txd => cases hi

/-- A step that lengthens the trace carries out a transaction its worker planned, with that kind's word. -/
theorem issue_of_bus {s t : State} {x : Exchange} (h : step s = .next t) (hbus : t.env.bus = s.env.bus ++ [x]) :
    ∃ k u, workerPlan s.chosen = .issue k u ∧ x.out = enc k := by
  cases ha : s.attached with
  | false =>
    rw [step_of_detached ha] at h
    cases h
    simp [bus_detachedStep] at hbus
  | true =>
    obtain ⟨-, hsame⟩ | ⟨k, u, hp, -, hub, -, htrace⟩ := enable_of_step ha h
    · simp [hsame] at hbus
    · rw [htrace, hub] at hbus
      have hx := List.singleton_inj.1 (List.append_cancel_left hbus)
      exact ⟨k, u, hp, by rw [← hx, encode_instrOf]⟩

/-- Settles O53: only a planned disable puts its word on the bus, and the worker plans it only past R208's tests. -/
theorem disableWordWaitsForDeadlineAndQueue : Obligations.DisableWordWaitsForDeadlineAndQueue := by
  intro s t a h hbus
  obtain ⟨k, u, hp, hk⟩ := issue_of_bus h hbus
  obtain ⟨-, hne⟩ | ⟨-, -, -, -, -, -, hdis, htxs, hq, -, hdl⟩ := workerPlan_issue _ u k hp
  · exact absurd (eq_deoff_of_enc hk.symm) hne
  · exact ⟨hdl, of_decide_eq_true hq, htxs, hdis⟩

end Sys2Proof.Machine
end

section
/-!
The deadline: a transmitted character extends it, and no other step of an existing Port moves it (R204, R205).
-/

namespace Sys2Proof.Machine

/-- A guard between two outcomes with one deadline: the shape of every request and source that may be refused or idle. -/
theorem dl_ite {c : Prop} [Decidable c] {d : Nat} {t u : State} (ht : t.dl = d) (hu : u.dl = d) :
    (if c then t else u).dl = d := by
  split
  · exact ht
  · exact hu

/-! ### Agents beside the worker -/

@[simp] theorem noteFull_dl (short : Nat) (s : State) : (noteFull short s).dl = s.dl := by
  obtain ⟨c, l, e⟩ := noteFull_eq short s
  rw [e]

@[simp] theorem push_dl (l : List Byte) (s : State) : (push l s).dl = s.dl := by
  unfold push
  split
  · exact dl_ite (noteFull_dl _ (enqueue _ l s)) (noteFull_dl _ (enqueue _ l s))
  · rfl

@[simp] theorem setFormat_dl (baud wlen : Nat) (par : ReqParity) (stop : Nat) (s : State) :
    (setFormat baud wlen par stop s).dl = s.dl := by
  obtain ⟨c, l, e⟩ := foldl_noteFallback_eq (resolve s.board baud wlen par stop s.stg).2 s
  unfold setFormat
  dsimp only
  rw [e]
  exact dl_ite rfl rfl

@[simp] theorem resume_dl (s : State) : (resume s).dl = s.dl := by
  unfold resume
  refine dl_ite rfl ?_
  split <;> rfl

/-- No request moves the deadline (R205, R327). -/
@[simp] theorem hostStep_dl (r : Request) (s : State) : (hostStep r s).dl = s.dl := by
  cases r with
  | attach | queryModem | queryTxe | setMctrl => rfl
  | openPort | flush | stopTx | startTx | suspend | close | detach => exact dl_ite rfl rfl
  | push l => exact push_dl l s
  | setFormat b w p st => exact setFormat_dl b w p st s
  | resume => exact resume_dl s

@[simp] theorem poll_dl (s : State) : (poll s).dl = s.dl := by
  unfold poll
  split
  · exact dl_ite rfl rfl
  · rfl

@[simp] theorem fire_dl (s : State) : (fire s).dl = s.dl := by
  unfold fire
  split
  · exact dl_ite rfl rfl
  · rfl

@[simp] theorem producerStep_dl (m : Move) (s : State) : (producerStep m s).dl = s.dl := by
  cases m with
  | worker | tick => rfl
  | host r => exact hostStep_dl r s
  | irq => exact dl_ite rfl rfl
  | poll => exact poll_dl s
  | fire => exact fire_dl s

/-! ### The worker's steps without a word -/

theorem dl_of_disableEvaluation {s t : State} (h : disableEvaluation s = .silent t) : t.dl = s.dl := by
  obtain ⟨e, -⟩ | ⟨e, -⟩ | ⟨e, -⟩ | ⟨e, -⟩ := disableEvaluation_cases s _ rfl <;> rw [e] at h <;> cases h <;> rfl

theorem dl_of_topPlan {s t : State} (h : topPlan s = .silent t) : t.dl = s.dl := by
  obtain ⟨e, -⟩ | ⟨-, -, ⟨e, -⟩ | ⟨e, -⟩ | ⟨e, -⟩ | ⟨e, -⟩ | ⟨e, -⟩⟩ := topPlan_cases s <;> rw [e] at h
  case inr.inr.inl => exact dl_of_disableEvaluation h
  all_goals cases h <;> rfl

theorem dl_of_silent {s t : State} (h : workerPlan s = .silent t) : t.dl = s.dl := by
  unfold workerPlan at h
  cases hp : s.phase with simp only [hp] at h
  | exited => cases h; rfl
  | parked => split at h <;> cases h <;> rfl
  | top => exact dl_of_topPlan h
  | drain k =>
    obtain ⟨e, -⟩ | ⟨e, -⟩ := drainPlan_cases s <;> rw [e] at h <;> cases h
    exact deliver_dl s
  | tx =>
    obtain ⟨e, -⟩ | ⟨-, ⟨e, -⟩ | ⟨-, -, -, ⟨c, -, e⟩ | ⟨-, e⟩⟩⟩ := txPlan_cases s <;> rw [e] at h <;> cases h <;> rfl
  | endPass => cases h; exact endStep_dl s

/-! ### The transactions -/

/-- An exchange leaves the deadline if what follows each of its answers does. -/
theorem dl_exchange {w : Word} {onErr : State → State} {onOk : Word → State → State} {s : State}
    (hErr : ∀ u, (onErr u).dl = u.dl) (hOk : ∀ r u, (onOk r u).dl = u.dl) : (exchange w onErr onOk s).dl = s.dl := by
  obtain ⟨-, e⟩ | ⟨r, -, e⟩ := exchange_cases w onErr onOk s
  · rw [e, hErr, exchanged_dl]
  · rw [e, hOk, exchanged_dl]

@[simp] theorem rdOk_dl (r : Word) (s : State) : (rdOk r s).dl = s.dl := by
  obtain ⟨p, f, l, c, g, e, -, h⟩ := drainNext_frame r (capture r true (decodeData r (decodeStatus r s)))
  rw [rdOk, h]
  exact capture_dl r true _

@[simp] theorem deoffOk_dl (r : Word) (s : State) : (deoffOk r s).dl = s.dl := capture_dl r false _

/-- Only a transmit moves the deadline (R205). -/
theorem dl_of_exec {i : Instr} {s t : State} (hi : ∀ pt d, i ≠ .txd pt d) (h : exec i s = .next t) : t.dl = s.dl := by
  cases i with
  | cfg st pe l b => cases h; exact dl_exchange (s := setPend _ s) (fun _ => rfl) fun _ _ => rfl
  | pwrdn st pe l b =>
    cases h
    exact dl_ite (dl_exchange (fun _ => rfl) fun _ _ => rfl)
      (dl_ite (dl_exchange (fun _ => rfl) fun _ _ => rfl) (dl_exchange (fun _ => rfl) fun _ _ => rfl))
  | rd => cases h; exact dl_exchange (fun _ => rfl) rdOk_dl
  | txd pt d => exact absurd rfl (hi pt d)
  | deoff => cases h; exact dl_exchange (fun _ => rfl) deoffOk_dl
  | rc => cases h

/-- A failed transmit has sent nothing (R140). -/
theorem dl_of_txd_err {pt : Bool} {d : Byte} {s t : State} (ha : nextAnswer s.env = .err) (h : exec (.txd pt d) s = .next t) :
    t.dl = s.dl := by
  rw [exec, execTxd, transmit, exchange_failExchange_of_err ha] at h
  cases h
  rfl

/-- An answered transmit records its completion (R204). -/
theorem recorded_of_txd_ok {pt : Bool} {d : Byte} {s t : State} {r : Word} (ha : nextAnswer s.env = .ok r)
    (h : exec (.txd pt d) s = .next t) : t.dl = max s.dl s.now + s.hold ∧ t.tc = s.now := by
  rw [exec_txd_of_ok ha, txdOk_eq, sent_eq] at h
  cases h
  exact ⟨capture_dl r false _, capture_tc r false _⟩

/-- The worker transmits under the active format (R243). -/
theorem state_and_fmt_of_issue_txd {s u : State} {f : Format} {c : Byte} (h : workerPlan s = .issue (.txd f c) u) :
    u = s ∧ f = s.fmt := by
  unfold workerPlan at h
  cases hp : s.phase with simp only [hp] at h
  | exited | endPass => cases h
  | parked => split at h <;> cases h
  | top =>
    obtain ⟨e, -⟩ | ⟨-, -, ⟨e, -⟩ | ⟨e, -⟩ | ⟨e, -⟩ | ⟨e, -⟩ | ⟨e, -⟩⟩ := topPlan_cases s <;> rw [e] at h
    case inr.inr.inl =>
      obtain ⟨e, -⟩ | ⟨e, -⟩ | ⟨e, -⟩ | ⟨e, -⟩ := disableEvaluation_cases s _ rfl <;> rw [e] at h <;> cases h
    all_goals cases h
  | drain k => obtain ⟨e, -⟩ | ⟨e, -⟩ := drainPlan_cases s <;> rw [e] at h <;> cases h
  | tx =>
    obtain ⟨e, -⟩ | ⟨-, ⟨e, -⟩ | ⟨-, -, -, ⟨c', -, e⟩ | ⟨-, e⟩⟩⟩ := txPlan_cases s <;> rw [e] at h <;> cases h
    exact ⟨rfl, rfl⟩

/-! ### One step of the machine -/

/-- A step of an existing Port leaves the deadline, or is an answered transmit under the active format. -/
theorem deadline_of_step {s t : State} (ha : s.attached = true) (h : step s = .next t) :
    t.dl = s.dl ∨
    ∃ c r, nextAnswer s.chosen.env = .ok r ∧ exec (instrOf (.txd s.fmt c)) s.chosen = .next t := by
  obtain ⟨hd, -⟩ | ⟨-, -, rfl⟩ | ⟨-, -, hp⟩ | ⟨-, -, k, u, i, hp, hd, hx⟩ := step_cases s t h
  · simp [hd] at ha
  · exact .inl (producerStep_dl _ s.chosen)
  · exact .inl ((dl_of_silent hp).trans (chosen_dl s))
  · rw [decodeWord_enc] at hd
    cases hd
    cases k with
    | txd f c =>
      obtain ⟨rfl, rfl⟩ := state_and_fmt_of_issue_txd hp
      cases hans : nextAnswer s.chosen.env with
      | err => exact .inl ((dl_of_txd_err hans hx).trans (chosen_dl s))
      | ok r => exact .inr ⟨c, r, rfl, hx⟩
    | cfg | pwrdn | rd | deoff =>
      have hu : u.dl = s.dl := by
        obtain ⟨rfl, -⟩ | ⟨-, rfl, -⟩ := workerPlan_issue _ u _ hp <;> rfl
      exact .inl ((dl_of_exec (fun _ _ hi => by cases hi) hx).trans hu)

/-- Settles O55: the one step that moves the deadline is an answered transmit, whose record moves it past the later of itself and the
clock, by a hold that the table of R176 makes positive. -/
theorem deadlinesOnlyMoveForward : Obligations.DeadlinesOnlyMoveForward := by
  intro s t hi ha h
  refine (deadline_of_step ha h).imp_right fun ⟨c, r, hans, hx⟩ => ?_
  obtain ⟨hdl, htc⟩ := recorded_of_txd_ok hans hx
  obtain ⟨hde, hbus⟩ := enableStep_of_exec hx
  rw [hans] at hde hbus
  have hstrict (htable : s.board.baudTable = Config.baudTable) : s.dl < t.dl ∧ s.now < t.dl := by
    have hhold : 39060 ≤ s.hold := hi.holdFresh ▸ hi.activeFormatOk.holdNs_ge htable
    rw [chosen_dl, chosen_now, chosen_hold] at hdl
    omega
  refine ⟨hdl, hstrict, htc, hde, c, r, ?_⟩
  rw [hbus, encode_instrOf, chosen_env, afterMove_bus]

end Sys2Proof.Machine
end

section
/-!
The worker's step in each phase: which plan its guards choose, and what the step then is (R230 to R244). Each item of `Top`, each
branch of a drain and of the transmit loop, and the `End` step has one equation here; the statements about the phases cite them.
-/

namespace Sys2Proof.Machine

/-! ### A worker step by its plan -/

theorem step_of_silent {s t : State} (ha : s.attached = true) (hm : nextMove s.env = .worker)
    (hp : workerPlan s.chosen = .silent t) : step s = .next t := by
  rw [step_of_worker ha hm, hp]
  rfl

theorem step_of_issue {s u : State} {k : Txn} (ha : s.attached = true) (hm : nextMove s.env = .worker)
    (hp : workerPlan s.chosen = .issue k u) : step s = exec (instrOf k) u := by
  rw [step_of_worker ha hm, hp, runPlan_issue]

/-- Settles O25: a planned transaction is issued from the state the step began with, but for the disable's flag. -/
theorem stepRunsTheDecodedInstruction : Obligations.StepRunsTheDecodedInstruction := by
  intro s u k ha hm hp
  refine ⟨instrOf k, decodeWord_enc k, step_of_issue ha hm hp, ?_⟩
  obtain ⟨hu, -⟩ | ⟨hk, hu, -⟩ := workerPlan_issue _ u k hp
  · exact .inl hu
  · exact .inr ⟨hk, hu⟩

/-- No transaction of the sequencer is a configuration read (R108). -/
theorem instrOf_ne_rc (k : Txn) : instrOf k ≠ .rc := by cases k <;> nofun

theorem env_of_issue {s u : State} {k : Txn} (h : workerPlan s = .issue k u) : u.env = s.env := by
  obtain ⟨rfl, -⟩ | ⟨-, rfl, -⟩ := workerPlan_issue s u k h <;> rfl

/-- A planned transaction completes, and the trace grows by its kind's word and the bus's next answer (R140, R230). -/
theorem exec_of_issue {s u : State} {k : Txn} (ha : s.attached = true) (hm : nextMove s.env = .worker)
    (hp : workerPlan s.chosen = .issue k u) :
    ∃ t, step s = .next t ∧ exec (instrOf k) u = .next t ∧
      t.env.bus = s.env.bus ++ [{ out := enc k, answer := nextAnswer (afterMove s.env) }] := by
  obtain ⟨t, hx⟩ := exec_completes (instrOf_ne_rc k) u
  refine ⟨t, (step_of_issue ha hm hp).trans hx, hx, ?_⟩
  rw [bus_of_issue hp (decodeWord_enc k) hx, env_of_issue hp, chosen_env, afterMove_bus]

/-! ### Parked (R232) -/

theorem workerPlan_of_parked {s : State} (hp : s.phase = .parked) :
    workerPlan s = .silent (if s.wake then takeActivation s else s) := by
  rw [workerPlan, hp]
  dsimp only
  split <;> rfl

/-- Settles O27: the wake decides. -/
theorem parkedWorkerNeedsAWake : Obligations.ParkedWorkerNeedsAWake := by
  intro s ha hm hp
  exact step_of_silent ha hm (workerPlan_of_parked (s := s.chosen) hp)

/-! ### Top (R234, R236) -/

theorem workerPlan_of_top {s : State} (hp : s.phase = .top) : workerPlan s = topPlan s := by
  rw [workerPlan, hp]

theorem topPlan_of_stop {s : State} (hstop : s.pend.stop = true) : topPlan s = .issue (.pwrdn s.fmt) s := by
  simp [topPlan, hstop]

theorem topPlan_of_suspend {s : State} (hstop : s.pend.stop = false) (hsusp : s.pend.susp = true) :
    topPlan s = .issue (.pwrdn s.fmt) s := by
  simp [topPlan, hstop, hsusp]

theorem topPlan_of_halted {s : State} (hstop : s.pend.stop = false) (hsusp : s.pend.susp = false)
    (hl : s.line = .suspended) : topPlan s = .silent (goto .endPass s) := by
  simp [topPlan, hstop, hsusp, hl]

theorem topPlan_of_commit {s : State} (hstop : s.pend.stop = false) (hsusp : s.pend.susp = false) (hl : s.line ≠ .suspended)
    (hdis : s.pend.dis = false) (hcfg : s.pend.cfg = true) : topPlan s = .issue (.cfg s.stg) s := by
  simp [topPlan, hstop, hsusp, hl, hdis, hcfg]

theorem topPlan_of_active {s : State} (hstop : s.pend.stop = false) (hsusp : s.pend.susp = false) (hl : s.line = .active)
    (hdis : s.pend.dis = false) (hcfg : s.pend.cfg = false) : topPlan s = .silent (startService s) := by
  simp [topPlan, hstop, hsusp, hl, hdis, hcfg]

theorem topPlan_of_idle {s : State} (hstop : s.pend.stop = false) (hsusp : s.pend.susp = false) (hl : s.line ≠ .suspended)
    (hact : s.line ≠ .active) (hdis : s.pend.dis = false) (hcfg : s.pend.cfg = false) :
    topPlan s = .silent (goto .endPass s) := by
  simp [topPlan, hstop, hsusp, hl, hact, hdis, hcfg]

/-- Settles O31: servicing is the item left on an active line. -/
theorem servicingTakesItsFlags : Obligations.ServicingTakesItsFlags := by
  intro s ha hm hp hl hstop hsusp hdis hcfg
  exact step_of_silent ha hm
    ((workerPlan_of_top (s := s.chosen) hp).trans (topPlan_of_active (s := s.chosen) hstop hsusp hl hdis hcfg))

/-- A power-down word with a stop requested ends the session, answered or not (R237). -/
theorem shutdown_of_exec_pwrdn {st pe l : Bool} {b : BitVec 4} {s t : State} (hstop : s.pend.stop = true)
    (h : exec (.pwrdn st pe l b) s = .next t) : t.phase = .exited ∧ t.line = .shutdown := by
  cases h
  rw [if_pos hstop, stopSequence]
  obtain ⟨-, e⟩ | ⟨r, -, e⟩ := exchange_cases _ _ _ s <;> rw [e] <;> exact ⟨rfl, rfl⟩

/-- The suspend step ends the pass, answered or not (R238, R140). -/
theorem phase_of_exec_pwrdn {st pe l : Bool} {b : BitVec 4} {s t : State} (hstop : s.pend.stop = false)
    (hsusp : s.pend.susp = true) (h : exec (.pwrdn st pe l b) s = .next t) : t.phase = .endPass := by
  cases h
  rw [if_neg (by simp [hstop]), if_pos hsusp, suspendStep]
  obtain ⟨-, e⟩ | ⟨r, -, e⟩ := exchange_cases _ _ _ s <;> rw [e] <;> rfl

/-- The disable evaluation stays at `Top` without a word, its flag taken, or issues the disable word (R208). -/
theorem disableEvaluation_silent_or_issue (s : State) :
    (∃ t, disableEvaluation s = .silent t ∧ t.env = s.env ∧ t.pend.dis = false ∧ t.phase = .top) ∨
    ∃ u, disableEvaluation s = .issue .deoff u := by
  obtain ⟨e, -⟩ | ⟨e, -⟩ | ⟨e, -⟩ | ⟨e, -⟩ := disableEvaluation_cases s _ rfl
  · exact .inl ⟨_, e, rfl, rfl, rfl⟩
  · exact .inl ⟨_, e, rfl, rfl, rfl⟩
  · exact .inl ⟨_, e, rfl, rfl, rfl⟩
  · exact .inr ⟨_, e⟩

/-- Settles O29: each item's plan, in the order of R234. -/
theorem topTakesTheFirstItem : Obligations.TopTakesTheFirstItem := by
  intro s ha hm hp c
  have htop : workerPlan s.chosen = topPlan s.chosen := workerPlan_of_top hp
  refine ⟨fun hstop => ?_, fun hstop hsusp => ?_, fun hstop hsusp =>
    ⟨fun hl => ?_, fun hl hdis => ?_, fun hl hdis hcfg => ?_, fun hl hdis hcfg => ?_, fun hl hact hdis hcfg => ?_⟩⟩
  · obtain ⟨t, h, hx, hbus⟩ := exec_of_issue ha hm (htop.trans (topPlan_of_stop hstop))
    obtain ⟨hexit, -⟩ := shutdown_of_exec_pwrdn (s := s.chosen) hstop hx
    exact ⟨t, h, hexit, hbus⟩
  · obtain ⟨t, h, hx, hbus⟩ := exec_of_issue ha hm (htop.trans (topPlan_of_suspend hstop hsusp))
    exact ⟨t, h, phase_of_exec_pwrdn (s := s.chosen) hstop hsusp hx, hbus⟩
  · exact step_of_silent ha hm (htop.trans (topPlan_of_halted hstop hsusp hl))
  · have hplan : workerPlan s.chosen = disableEvaluation s.chosen := workerPlan_of_disable hp hstop hsusp hl hdis
    obtain ⟨t, e, henv, htaken, htop⟩ | ⟨u, e⟩ := disableEvaluation_silent_or_issue s.chosen
    · refine ⟨t, step_of_silent ha hm (hplan.trans e), .inl ⟨?_, htaken, htop⟩⟩
      rw [henv, chosen_env, afterMove_bus]
    · obtain ⟨t, h, -, hbus⟩ := exec_of_issue ha hm (hplan.trans e)
      exact ⟨t, h, .inr hbus⟩
  · obtain ⟨t, h, -, hbus⟩ := exec_of_issue ha hm (htop.trans (topPlan_of_commit hstop hsusp hl hdis hcfg))
    exact ⟨t, h, hbus⟩
  · exact ⟨_, step_of_silent ha hm (htop.trans (topPlan_of_active hstop hsusp hl hdis hcfg)), afterMove_bus s.env, rfl⟩
  · exact step_of_silent ha hm (htop.trans (topPlan_of_idle hstop hsusp hl hact hdis hcfg))

/-! ### Drain and Tx (R241, R243) -/

theorem preempts_eq_true_iff (p : PendingFlags) : p.preempts = true ↔ p.stop = true ∨ p.susp = true := by
  simp [PendingFlags.preempts]

theorem workerPlan_of_drain {s : State} {k : Nat} (hp : s.phase = .drain k) : workerPlan s = drainPlan s := by
  rw [workerPlan, hp]

theorem drainPlan_of_preempted {s : State} (h : s.pend.stop = true ∨ s.pend.susp = true) :
    drainPlan s = .silent (goto .top (deliver s)) :=
  if_pos ((preempts_eq_true_iff s.pend).2 h)

theorem drainPlan_of_free {s : State} (hstop : s.pend.stop = false) (hsusp : s.pend.susp = false) :
    drainPlan s = .issue .rd s := by
  simp [drainPlan, (preempts_eq_false_iff s.pend).2 ⟨hstop, hsusp⟩]

theorem workerPlan_of_tx {s : State} (hp : s.phase = .tx) : workerPlan s = txPlan s := by
  rw [workerPlan, hp]

theorem txPlan_of_preempted {s : State} (h : s.pend.stop = true ∨ s.pend.susp = true) : txPlan s = .silent (goto .top s) :=
  if_pos ((preempts_eq_true_iff s.pend).2 h)

theorem txPlan_of_nothing {s : State} (hstop : s.pend.stop = false) (hsusp : s.pend.susp = false)
    (h : s.head = s.tail ∨ s.txstop = true ∨ s.txe = false) : txPlan s = .silent (goto .endPass s) := by
  have hend : (qEmpty s || s.txstop || !s.txe) = true := by simpa [qEmpty, or_assoc] using h
  simp [txPlan, (preempts_eq_false_iff s.pend).2 ⟨hstop, hsusp⟩, hend]

/-- With a byte to send and the chip ready, the plan is what the slot at the read position holds. -/
theorem txPlan_of_ready {s : State} (hstop : s.pend.stop = false) (hsusp : s.pend.susp = false) (hq : s.head ≠ s.tail)
    (hflow : s.txstop = false) (htxe : s.txe = true) :
    (∀ c, s.mem.read s.tail = some c → txPlan s = .issue (.txd s.fmt c) s) ∧
    (s.mem.read s.tail = none → txPlan s = .noByte) := by
  constructor
  · intro c hread
    simp [txPlan, readTail, qEmpty, (preempts_eq_false_iff s.pend).2 ⟨hstop, hsusp⟩, hq, hflow, htxe, hread]
  · intro hread
    simp [txPlan, readTail, qEmpty, (preempts_eq_false_iff s.pend).2 ⟨hstop, hsusp⟩, hq, hflow, htxe, hread]

/-- Settles O32: the branches of the two phases. -/
theorem drainAndTransmitSteps : Obligations.DrainAndTransmitSteps := by
  intro s ha hm c
  refine ⟨fun k hp => ?_, fun hp => ?_⟩
  · have hplan : workerPlan s.chosen = drainPlan s.chosen := workerPlan_of_drain hp
    exact ⟨fun h => step_of_silent ha hm (hplan.trans (drainPlan_of_preempted h)),
      fun hstop hsusp => step_of_issue ha hm (hplan.trans (drainPlan_of_free hstop hsusp))⟩
  · have hplan : workerPlan s.chosen = txPlan s.chosen := workerPlan_of_tx hp
    refine ⟨fun h => step_of_silent ha hm (hplan.trans (txPlan_of_preempted h)), fun hstop hsusp =>
      ⟨fun h => step_of_silent ha hm (hplan.trans (txPlan_of_nothing hstop hsusp h)), fun hq hflow htxe => ?_⟩⟩
    obtain ⟨hbyte, hnone⟩ := txPlan_of_ready (s := s.chosen) hstop hsusp hq hflow htxe
    refine ⟨fun b hread => step_of_issue ha hm (hplan.trans (hbyte b hread)), fun hread => ?_⟩
    rw [step_of_worker ha hm, hplan, hnone hread]
    rfl

/-! ### End (R244, R206) -/

theorem workerPlan_of_endPass {s : State} (hp : s.phase = .endPass) : workerPlan s = .silent (endStep s) := by
  rw [workerPlan, hp]

theorem armCheck_os (s : State) :
    (armCheck s).os =
      if s.head = s.tail ∧ s.de ≠ .off ∧ s.os = none ∧ s.pend.dis = false ∧ s.line = .active then some s.dl else s.os := by
  obtain ⟨e, h⟩ | ⟨e, h⟩ := armCheck_cases s <;> rw [qEmpty, decide_eq_true_eq] at h
  · rw [e, if_pos h]
  · rw [e, if_neg h]

/-- The phase after `End`, flag by flag (R244). -/
theorem ite_loops (s : State) :
    (if loops s then Phase.top else .parked) =
      if s.fail = true ∨ s.line = .suspended then .parked
      else if s.pend.stop = true ∨ s.pend.susp = true ∨ s.pend.dis = true ∨ s.pend.cfg = true ∨ s.pend.txn = true ∨
          s.pend.txs = true ∨ s.pend.rxp = true ∨ s.pend.fls = true ∨ (s.head ≠ s.tail ∧ s.txstop = false) then .top
      else .parked := by
  by_cases hhalt : s.fail = true ∨ s.line = .suspended
  · have hloops : loops s = false := by obtain h | h := hhalt <;> simp [loops, h]
    simp [hloops, hhalt]
  · rw [if_neg hhalt]
    obtain ⟨hfail, hline⟩ := not_or.1 hhalt
    simp [loops, PendingFlags.any, qEmpty, hfail, hline, or_assoc]

/-- The `End` step: a delivery, the one-shot and the phase. -/
theorem endStep_eq (s : State) :
    endStep s = { deliver s with os := (armCheck (deliver s)).os, phase := if loops s then .top else .parked } := by
  have harm := armCheck_frame (deliver s)
  obtain ⟨h, e⟩ | ⟨h, e⟩ := endStep_cases s <;> rw [loops_after_delivery] at h <;> rw [e, harm, h] <;> rfl

/-- Settles O33: what arms and what loops are read from the state before the delivery, which leaves them. -/
theorem endArmsThenLoopsOrParks : Obligations.EndArmsThenLoopsOrParks := by
  intro s ha hm hp c
  rw [step_of_silent ha hm (workerPlan_of_endPass (s := s.chosen) hp), endStep_eq, ite_loops, armCheck_os]
  simp only [deliver_head, deliver_tail, deliver_de, deliver_os, deliver_pend, deliver_line, deliver_dl]
  rfl

end Sys2Proof.Machine
end

section
/-!
The phase belongs to the worker: of the other agents only a host that opens the line moves it (R233, R274), so an exited worker
stays silent until then.
-/

namespace Sys2Proof.Machine

/-- A guard between two outcomes with one phase: the shape of every request and source that may be refused or idle. -/
theorem phase_ite {c : Prop} [Decidable c] {p : Phase} {t u : State} (ht : t.phase = p) (hu : u.phase = p) :
    (if c then t else u).phase = p := by
  split
  · exact ht
  · exact hu

theorem noteFull_phase (short : Nat) (s : State) : (noteFull short s).phase = s.phase := by
  obtain ⟨c, l, e⟩ := noteFull_eq short s
  rw [e]

theorem push_phase (l : List Byte) (s : State) : (push l s).phase = s.phase := by
  unfold push
  split
  · exact phase_ite (noteFull_phase _ (enqueue _ l s)) (noteFull_phase _ (enqueue _ l s))
  · rfl

theorem setFormat_phase (baud wlen : Nat) (par : ReqParity) (stop : Nat) (s : State) :
    (setFormat baud wlen par stop s).phase = s.phase := by
  obtain ⟨c, l, e⟩ := foldl_noteFallback_eq (resolve s.board baud wlen par stop s.stg).2 s
  unfold setFormat
  dsimp only
  rw [e]
  exact phase_ite rfl rfl

/-- An accepted open puts the worker at `Parked` (R274). -/
theorem openPort_phase (s : State) : (openPort s).phase = s.phase ∨ (openPort s).phase = .parked := by
  unfold openPort
  split
  · exact .inr rfl
  · exact .inl rfl

/-- Every request but open leaves the phase (R233). -/
theorem hostStep_phase {r : Request} (hr : r ≠ .openPort) (s : State) : (hostStep r s).phase = s.phase := by
  cases r with
  | attach | queryModem | queryTxe | setMctrl => rfl
  | openPort => exact absurd rfl hr
  | flush | stopTx | startTx | suspend | close | detach => exact phase_ite rfl rfl
  | push l => exact push_phase l s
  | setFormat b w p st => exact setFormat_phase b w p st s
  | resume =>
    refine phase_ite rfl ?_
    split <;> rfl

/-- Every agent beside the worker leaves the phase, but for a host that opens the line (R233). -/
theorem producerStep_phase {m : Move} (hm : m ≠ .host .openPort) (s : State) : (producerStep m s).phase = s.phase := by
  cases m with
  | worker | tick => rfl
  | host r => exact hostStep_phase (fun e => hm (e ▸ rfl)) s
  | irq => exact phase_ite rfl rfl
  | poll =>
    change (poll s).phase = s.phase
    unfold poll
    split
    · exact phase_ite rfl rfl
    · rfl
  | fire =>
    change (fire s).phase = s.phase
    unfold fire
    split
    · exact phase_ite rfl rfl
    · rfl

/-- A Port attached anew has an exited worker (R350), as the machine had that took no attach. -/
theorem detachedStep_phase {s : State} (m : Move) (hp : s.phase = .exited) : (detachedStep m s).phase = .exited := by
  unfold detachedStep
  split
  · exact phase_ite rfl hp
  · exact hp

theorem workerPlan_of_exited {s : State} (hp : s.phase = .exited) : workerPlan s = .silent s := by
  rw [workerPlan, hp]

/-- Settles O28: an exited worker plans nothing, and no other agent reaches the bus. -/
theorem exitedWorkerIsSilent : Obligations.ExitedWorkerIsSilent := by
  intro s t hp h
  have hchosen : s.chosen.env.bus = s.env.bus := afterMove_bus s.env
  have hplan : workerPlan s.chosen = .silent s.chosen := workerPlan_of_exited hp
  rw [← hchosen]
  obtain ⟨-, rfl⟩ | ⟨-, -, rfl⟩ | ⟨-, -, e⟩ | ⟨-, -, k, u, i, e, -⟩ := step_cases s t h
  · exact ⟨bus_detachedStep _ _, .inl (detachedStep_phase _ hp)⟩
  · refine ⟨(sameEnable_producerStep _ _).2, ?_⟩
    by_cases hm : nextMove s.env = .host .openPort
    · rw [hm]
      exact (openPort_phase s.chosen).imp (fun e => e.trans hp) fun e => ⟨e, rfl⟩
    · exact .inl ((producerStep_phase hm s.chosen).trans hp)
  · rw [hplan] at e
    cases e
    exact ⟨rfl, .inl hp⟩
  · rw [hplan] at e
    cases e

end Sys2Proof.Machine
end

section
/-!
The model's way to place a word (log entry 5): `withFetchWord` reads the word back as its instruction, and in the state `place` makes
for it the worker's plan is a transaction of that instruction.
-/

namespace Sys2Proof.Machine

/-! ### The placed word -/

/-- The word of an instruction, given as a number, is read back as that instruction. -/
theorem decodeTableWord_encode (i : Instr) : decodeTableWord 16 (encode i).toNat = some i := by
  have hword : BitVec.ofNat 16 ((encode i).toNat % 2 ^ 16) = encode i := by
    rw [Nat.mod_eq_of_lt (encode i).isLt, BitVec.ofNat_toNat, BitVec.setWidth_eq]
  have hround : decode (encodeBytes i) = .ok (i, []) := decodeEncodeRoundTrip i []
  rw [encodeBytes] at hround
  simp only [decodeTableWord, hword, hround]

/-- `State.withFetchWord` puts a worker's move on the agenda, which the choice of the next agent takes off again. -/
theorem withFetchWord_encode (i : Instr) (s : State) :
    (s.withFetchWord 16 (encode i).toNat).attached = true ∧
    nextMove (s.withFetchWord 16 (encode i).toNat).env = .worker ∧
    (s.withFetchWord 16 (encode i).toNat).chosen = place i { s with attached := true } := by
  simp only [State.withFetchWord, decodeTableWord_encode]
  cases i <;> exact ⟨rfl, rfl, rfl⟩

/-! ### The placed formats -/

/-- The two configuration words of a format made for their fields carry those fields (R109). -/
theorem instrOf_formatWith (p : Config.Board) (st pe l : Bool) (b : BitVec 4) (f : Format) :
    instrOf (.cfg (formatWith p st pe l b f)) = .cfg st pe l b ∧
    instrOf (.pwrdn (formatWith p st pe l b f)) = .pwrdn st pe l b := by
  have hst : stBit (formatWith p st pe l b f) = st := by cases st <;> rfl
  have hl : lBit (formatWith p st pe l b f) = l := by cases l <;> rfl
  have hpe : peBit (formatWith p st pe l b f) = pe := by
    cases pe with
    | false => rfl
    | true => cases hpar : f.par <;> simp [peBit, formatWith, hpar]
  rw [instrOf, instrOf, hst, hl, hpe]
  exact ⟨rfl, rfl⟩

/-- The other parity mode gives the other parity bit (R171). -/
theorem parityBit_odd (c : Byte) (wl : WordLen) : parityBit c wl true = !parityBit c wl false := by
  simp [parityBit]

theorem and_mask_eight (d : Byte) : d &&& mask .eight = d := BitVec.and_allOnes

/-- Under the format made for it a character goes out as it is, with the parity bit asked for (R172). -/
theorem applyParity_formatSending (pt : Bool) (d : Byte) (f : Format) : applyParity (formatSending pt d f) d = (d, pt) := by
  unfold formatSending
  split
  next h => exact h
  next =>
    cases pt with
    | false => simp [applyParity, and_mask_eight]
    | true => cases hp : parityBit d .eight false <;> simp [applyParity, and_mask_eight, parityBit_odd, hp]

/-! ### The placed queue -/

/-- With two slots or more, the position after a slot is another one (R31, R355). -/
theorem advance_one_ne {s : State} (hcap : 2 ≤ s.board.xmitCap) (i : Nat) : advance 1 i s ≠ i := by
  intro h
  have hlt : i < s.board.xmitCap := h ▸ advance_lt 1 i s (by omega)
  have hslot : (i + 1) % s.board.xmitCap = (i + 0) % s.board.xmitCap := h.trans (Nat.mod_eq_of_lt hlt).symm
  exact absurd (offset_eq_of_slot_eq hcap (by omega) hslot) nofun

/-! ### The plan -/

theorem unhalted_ne_suspended (l : LineState) : unhalted l ≠ .suspended := by cases l <;> decide

/-- What a state keeps that a word is placed in: the environment, the clock, the hold, the timer and the parameters. -/
def SameSurroundings (s u : State) : Prop :=
  u.env = s.env ∧ u.now = s.now ∧ u.hold = s.hold ∧ u.os = s.os ∧ u.board = s.board

/-- The plan issues a word of this instruction, from a state with the surroundings of `s`. -/
def Plan.Issues (i : Instr) (s : State) (p : Plan) : Prop :=
  ∃ k u, p = .issue k u ∧ instrOf k = i ∧ SameSurroundings s u

theorem issues_place_txd {pt : Bool} {d : Byte} {s : State} (hcap : 2 ≤ s.board.xmitCap) :
    (workerPlan (place (.txd pt d) s)).Issues (.txd pt d) s := by
  have hqueued : (place (.txd pt d) s).head ≠ (place (.txd pt d) s).tail := by
    change (if s.head = s.tail then advance 1 s.tail s else s.head) ≠ s.tail
    split
    next => exact advance_one_ne hcap s.tail
    next h => exact h
  have hread : (place (.txd pt d) s).mem.read (place (.txd pt d) s).tail = some d := Memory.read_write_same s.mem s.tail d
  obtain ⟨hbyte, -⟩ := txPlan_of_ready (s := place (.txd pt d) s) rfl rfl hqueued rfl rfl
  refine ⟨_, _, (workerPlan_of_tx rfl).trans (hbyte d hread), ?_, rfl, rfl, rfl, rfl, rfl⟩
  rw [instrOf, show (place (.txd pt d) s).fmt = formatSending pt d s.fmt from rfl, applyParity_formatSending]

theorem issues_place_deoff (s : State) : (workerPlan (place .deoff s)).Issues .deoff s := by
  have hde : (place .deoff s).de ≠ .off := by
    change (if s.de = .off then .on else s.de) ≠ .off
    split
    next => nofun
    next h => exact h
  have hdl : (place .deoff s).dl ≤ (place .deoff s).now := Nat.min_le_right s.dl s.now
  have hplan : workerPlan (place .deoff s) = disableEvaluation (place .deoff s) :=
    workerPlan_of_disable rfl rfl rfl (unhalted_ne_suspended s.line) rfl
  exact ⟨_, _, hplan.trans (disableEvaluation_of_due rfl rfl hde hdl), rfl, rfl, rfl, rfl, rfl, rfl⟩

/-- In the state made for an instruction's word the worker issues that word. -/
theorem issues_place {i : Instr} (hi : i ≠ .rc) {s : State} (hcap : 2 ≤ s.board.xmitCap) :
    (workerPlan (place i s)).Issues i s := by
  cases i with
  | cfg st pe l b =>
    obtain ⟨hcfg, -⟩ := instrOf_formatWith s.board st pe l b s.stg
    have hplan : topPlan (place (.cfg st pe l b) s) = .issue (.cfg _) _ :=
      topPlan_of_commit rfl rfl (unhalted_ne_suspended s.line) rfl rfl
    exact ⟨_, _, (workerPlan_of_top rfl).trans hplan, hcfg, rfl, rfl, rfl, rfl, rfl⟩
  | pwrdn st pe l b =>
    obtain ⟨-, hpwrdn⟩ := instrOf_formatWith s.board st pe l b s.fmt
    have hplan : topPlan (place (.pwrdn st pe l b) s) = .issue (.pwrdn _) _ := topPlan_of_suspend rfl rfl
    exact ⟨_, _, (workerPlan_of_top rfl).trans hplan, hpwrdn, rfl, rfl, rfl, rfl, rfl⟩
  | rd => exact ⟨_, _, (workerPlan_of_drain rfl).trans (drainPlan_of_free rfl rfl), rfl, rfl, rfl, rfl, rfl, rfl⟩
  | txd pt d => exact issues_place_txd hcap
  | deoff => exact issues_place_deoff s
  | rc => exact absurd rfl hi

/-- Settles O26: the placed word is the next thing the worker plans. -/
theorem placedWordRunsNext : Obligations.PlacedWordRunsNext := by
  intro i s hi hcap
  obtain ⟨ha, hm, hchosen⟩ := withFetchWord_encode i s
  obtain ⟨k, u, hplan, rfl, hsame⟩ := issues_place hi (s := { s with attached := true }) hcap
  rw [← hchosen] at hplan
  exact ⟨u, step_of_issue ha hm hplan, hsame⟩

end Sys2Proof.Machine
end

section
/-!
Running a script of moves: a run is its first step and the rest of the run, and with the worker next on the agenda the step is the
worker's.
-/

namespace Sys2Proof.Machine

theorem run_succ_of_next {M : Host.Core} {s t : M.State} (h : M.step s = .next t) (n : Nat) :
    M.run (n + 1) s = M.run n t := by
  simp only [Host.Core.run, h]

theorem run_succ_of_step {s t : State} (h : step s = .next t) (n : Nat) : core.run (n + 1) s = core.run n t :=
  run_succ_of_next (M := core) h n

theorem nextMove_of_agenda {e : Env} {m : Move} {ms : List Move} (h : e.agenda = m :: ms) : nextMove e = m := by
  rw [nextMove, h]

theorem afterMove_of_agenda {e : Env} {m : Move} {ms : List Move} (h : e.agenda = m :: ms) :
    afterMove e = { e with agenda := ms } := by
  rw [afterMove, h]

theorem chosen_agenda {s : State} {m : Move} {ms : List Move} (h : s.env.agenda = m :: ms) : s.chosen.env.agenda = ms := by
  rw [chosen_env, afterMove_of_agenda h]

end Sys2Proof.Machine
end

section
/-!
The way out after a requested stop (R248): how many worker steps each phase is away from `Exited`, that each step is one of them, and
the induction over that distance.
-/

namespace Sys2Proof.Machine

/-- The worker steps from a phase to `Exited` once a stop is requested (R248): `Top` shuts down, a parked worker has been woken, a pass
is preempted, and `End` loops or parks. -/
def Phase.stepsToExit : Phase → Nat
  | .exited => 0
  | .top => 1
  | .parked | .drain _ | .tx => 2
  | .endPass => 3

/-- The worker has exited, or is asked to stop and is at most `n` of its steps away from that. -/
def ExitsWithin (n : Nat) (s : State) : Prop :=
  s.phase = .exited ∨ s.pend.stop = true ∧ s.phase.stepsToExit ≤ n

theorem exitsWithin_three {s : State} (hstop : s.pend.stop = true) : ExitsWithin 3 s :=
  .inr ⟨hstop, by cases s.phase <;> simp [Phase.stepsToExit]⟩

/-- No stop is requested of a shut-down line, so an exited worker is not asked to stop (R237). -/
theorem Inv.phase_ne_exited_of_stop {s : State} (hi : Inv s) (hstop : s.pend.stop = true) : s.phase ≠ .exited := by
  intro hp
  obtain ⟨hnone, -⟩ := hi.shutdownQuiet (hi.exitedIffShutdown.1 hp)
  rw [hnone] at hstop
  cases hstop

/-- What a worker step must give that brings the exit nearer; the invariant is kept by every step. -/
def BringsExit (n : Nat) (s : State) : Prop :=
  ∃ t, step s = .next t ∧ t.env.agenda = s.chosen.env.agenda ∧ ExitsWithin n t

/-- A step without a word that leaves the flags, in the phase it leads to. -/
theorem bringsExit_of_silent {s t : State} {n : Nat} (ha : s.attached = true) (hm : nextMove s.env = .worker)
    (hplan : workerPlan s.chosen = .silent t) (hagenda : t.env.agenda = s.chosen.env.agenda)
    (hstop : t.pend.stop = true) (hn : t.phase.stepsToExit ≤ n) : BringsExit n s :=
  ⟨t, step_of_silent ha hm hplan, hagenda, .inr ⟨hstop, hn⟩⟩

/-- `End` loops to `Top`, or parks with the wake of the request still set; either is two steps away at most (R244, R248). -/
theorem stepsToExit_endStep (s : State) : (endStep s).phase.stepsToExit ≤ 2 := by
  rw [endStep_phase]
  split <;> decide

/-- One worker step of the way out (R248). -/
theorem bringsExit {s : State} {n : Nat} (hi : Inv s) (ha : s.attached = true) (hm : nextMove s.env = .worker)
    (h : ExitsWithin (n + 1) s) : BringsExit n s := by
  obtain hp | ⟨hstop, hn⟩ := h
  · exact ⟨s.chosen, step_of_silent ha hm (workerPlan_of_exited hp), rfl, .inl hp⟩
  · cases hp : s.phase with rw [hp] at hn
    | exited => exact absurd hp (hi.phase_ne_exited_of_stop hstop)
    | top =>
      have hplan : workerPlan s.chosen = .issue (.pwrdn s.fmt) s.chosen :=
        (workerPlan_of_top (s := s.chosen) hp).trans (topPlan_of_stop hstop)
      obtain ⟨t, ht, hx, -⟩ := exec_of_issue ha hm hplan
      obtain ⟨hexit, -⟩ := shutdown_of_exec_pwrdn (s := s.chosen) hstop hx
      exact ⟨t, ht, agenda_of_exec hx, .inl hexit⟩
    | parked =>
      have hwake : s.chosen.wake = true := (hi.stopSeen hstop).resolve_right (by simp [hp])
      have hplan := workerPlan_of_parked (s := s.chosen) hp
      rw [if_pos hwake] at hplan
      exact bringsExit_of_silent ha hm hplan rfl hstop (Nat.le_of_succ_le_succ hn)
    | drain k =>
      have hplan := (workerPlan_of_drain (s := s.chosen) hp).trans (drainPlan_of_preempted (.inl hstop))
      refine bringsExit_of_silent ha hm hplan (deliver_agenda s.chosen) ?_ (Nat.le_of_succ_le_succ hn)
      rw [goto_pend, deliver_pend]
      exact hstop
    | tx =>
      have hplan := (workerPlan_of_tx (s := s.chosen) hp).trans (txPlan_of_preempted (.inl hstop))
      exact bringsExit_of_silent ha hm hplan rfl hstop (Nat.le_of_succ_le_succ hn)
    | endPass =>
      refine bringsExit_of_silent ha hm (workerPlan_of_endPass hp) (endStep_agenda s.chosen) ?_
        ((stepsToExit_endStep s.chosen).trans (Nat.le_of_succ_le_succ hn))
      rw [endStep_pend]
      exact hstop

/-- As many worker steps in a row as the exit is away (R248). -/
theorem run_exits (n : Nat) {s : State} {rest : List Move} (hi : Inv s) (ha : s.attached = true) (h : ExitsWithin n s)
    (hagenda : s.env.agenda = List.replicate n .worker ++ rest) :
    ∃ t, core.run n s = .next t ∧ t.phase = .exited ∧ t.line = .shutdown ∧ t.env.agenda = rest := by
  induction n generalizing s with
  | zero =>
    have hexit : s.phase = .exited := by
      obtain hp | ⟨hstop, hn⟩ := h
      · exact hp
      · cases hp : s.phase with rw [hp] at hn
        | top | parked | drain | tx | endPass => cases hn
    exact ⟨s, rfl, hexit, hi.exitedIffShutdown.1 hexit, hagenda⟩
  | succ n ih =>
    rw [List.replicate_succ, List.cons_append] at hagenda
    have hm : nextMove s.env = .worker := nextMove_of_agenda hagenda
    obtain ⟨u, hstep, hu, hnear⟩ := bringsExit hi ha hm h
    obtain ⟨-, hsame⟩ := samePort_of_step hstep ha (by simp [hm])
    rw [run_succ_of_step hstep]
    exact ih (everyStepKeepsTheInvariant s u hi hstep) (hsame.trans ha) hnear (hu.trans (chosen_agenda hagenda))

/-- Settles O58: every phase is three worker steps away from the exit at most. -/
theorem stopWithinThreeWorkerSteps : Obligations.StopWithinThreeWorkerSteps := by
  intro s rest hi ha hstop hagenda
  exact run_exits 3 hi ha (exitsWithin_three hstop) hagenda

end Sys2Proof.Machine
end

section
/-!
The transmit loop with a chip that is always ready (R243, R246): one step sends the byte at the read position, and the induction over
the queue's length sends them all.
-/

namespace Sys2Proof.Machine

/-! ### The queue without its first byte -/

/-- The queue of `t` is that of `s` without the byte at the read position (R31). -/
def QueueAdvanced (s t : State) : Prop :=
  t.board = s.board ∧ t.mem = s.mem ∧ t.head = s.head ∧ t.tail = advance 1 s.tail s

theorem QueueAdvanced.slotOf_eq {s t : State} (h : QueueAdvanced s t) (i : Nat) : slotOf t i = slotOf s (i + 1) := by
  obtain ⟨hb, -, -, ht⟩ := h
  rw [slotOf, slotOf, hb, ht, advance, Nat.mod_add_mod, Nat.add_assoc, Nat.add_comm 1 i]

theorem QueueAdvanced.qCount_eq {s t : State} (h : QueueAdvanced s t) (hi : Inv s) {n : Nat} (hn : qCount s = n + 1) :
    qCount t = n := by
  have hlt : qCount s < s.board.xmitCap := qCount_lt s (Nat.zero_lt_of_lt hi.headInRange)
  have hslot := h.slotOf_eq n
  obtain ⟨hb, -, hh, ht⟩ := h
  apply qCount_eq_of_slot_eq
  · rw [hb, hh]
    exact hi.headInRange
  · rw [hb, ht]
    exact advance_lt 1 s.tail s (Nat.zero_lt_of_lt hi.headInRange)
  · rw [hb]
    omega
  · rw [hh, ← tail_add_qCount hi.headInRange hi.tailInRange, hn]
    exact hslot

theorem QueueAdvanced.queued_eq {s t : State} (h : QueueAdvanced s t) (hi : Inv s) {n : Nat} (hn : qCount s = n + 1)
    {c : Byte} (hc : s.mem.read s.tail = some c) : queued s = c :: queued t := by
  have hfirst : s.mem.read (slotOf s 0) = some c := by
    rw [slotOf, Nat.add_zero, Nat.mod_eq_of_lt hi.tailInRange, hc]
  have ⟨_, hmem, _⟩ := h
  simp only [queued, h.qCount_eq hi hn, hn, List.range_succ_eq_map, List.filterMap_cons, hfirst, List.filterMap_map,
    Function.comp_def, hmem, h.slotOf_eq]

theorem queued_of_empty {s : State} (h : qCount s = 0) : queued s = [] := by
  rw [queued, h]
  rfl

/-! ### One byte -/

/-- The transmit loop, with nothing that keeps it from sending but an empty queue (R243). -/
structure Sending (s : State) : Prop where
  inv : Inv s
  attached : s.attached = true
  phase : s.phase = .tx
  noStop : s.pend.stop = false
  noSuspend : s.pend.susp = false
  flowing : s.txstop = false
  ready : s.txe = true

/-- The state after the transmit step that sends `c` and is answered `0x4000`: no character received, clear-to-send low, and the chip
ready again. -/
def afterByte (s : State) (c : Byte) : State :=
  { s with env := afterAnswer (enc (.txd s.fmt c)) (afterMove s.env)
           tail := advance 1 s.tail s, ctr := { s.ctr with ntx := s.ctr.ntx + 1 }, de := .on
           outcome := if s.os.isSome || s.pend.dis then some .superseded else s.outcome
           os := none, pend := { s.pend with dis := false }
           tc := s.now, dl := max s.dl s.now + s.hold
           txe := true, rxa := false, cts := false, phase := .tx }

/-- What `0x4000` says: no character (bit 15), transmit register empty (bit 14), clear-to-send low (bit 9) (R110, R111). -/
theorem ready_answer_bits :
    (0x4000#16).getLsbD 15 = false ∧ (0x4000#16).getLsbD 14 = true ∧ (0x4000#16).getLsbD 9 = false := by decide

theorem exec_txd_of_ready {s : State} (c : Byte) (h : nextAnswer s.chosen.env = .ok 0x4000#16) :
    exec (instrOf (.txd s.fmt c)) s.chosen = .next (afterByte s c) := by
  obtain ⟨hR, hT, hCTS⟩ := ready_answer_bits
  obtain ⟨hanswered, -⟩ := transmitSendsOneCharacter (applyParity s.fmt c).2 (applyParity s.fmt c).1 s.chosen
  obtain ⟨hquiet, -⟩ := hanswered _ h
  rw [hR, hT, hCTS] at hquiet
  rw [afterByte, ← encode_instrOf]
  exact hquiet rfl

theorem queueAdvanced_afterByte (s : State) (c : Byte) : QueueAdvanced s (afterByte s c) := ⟨rfl, rfl, rfl, rfl⟩

/-- With a byte queued, the transmit step sends it (R147, R243). -/
theorem step_of_sending {s : State} (h : Sending s) (hq : 0 < qCount s) (hm : nextMove s.env = .worker)
    {as : List Answer} (hans : s.env.answers = .ok 0x4000#16 :: as) :
    ∃ c, s.mem.read s.tail = some c ∧ step s = .next (afterByte s c) := by
  have hne : s.head ≠ s.tail := fun he => by simp [qCount_of_head_eq_tail he] at hq
  have hwritten := h.inv.queueWritten 0 hq
  rw [slotOf, Nat.add_zero, Nat.mod_eq_of_lt h.inv.tailInRange] at hwritten
  obtain ⟨c, hread⟩ := Option.isSome_iff_exists.1 hwritten
  obtain ⟨hbyte, -⟩ := txPlan_of_ready (s := s.chosen) h.noStop h.noSuspend hne h.flowing h.ready
  have hplan : workerPlan s.chosen = .issue (.txd s.fmt c) s.chosen := (workerPlan_of_tx (s := s.chosen) h.phase).trans (hbyte c hread)
  have hok : nextAnswer s.chosen.env = .ok 0x4000#16 := by rw [nextAnswer, chosen_env, afterMove_answers, hans]
  refine ⟨c, hread, ?_⟩
  rw [step_of_issue h.attached hm hplan, exec_txd_of_ready c hok]

theorem sending_afterByte {s : State} {c : Byte} (h : Sending s) (hstep : step s = .next (afterByte s c)) :
    Sending (afterByte s c) where
  inv := everyStepKeepsTheInvariant s _ h.inv hstep
  attached := h.attached
  phase := rfl
  noStop := h.noStop
  noSuspend := h.noSuspend
  flowing := h.flowing
  ready := rfl

theorem afterByte_agenda {s : State} (c : Byte) {m : Move} {ms : List Move} (h : s.env.agenda = m :: ms) :
    (afterByte s c).env.agenda = ms :=
  (afterAnswer_agenda _ s.chosen.env).trans (chosen_agenda h)

theorem afterAnswer_of_answers {e : Env} {a : Answer} {as : List Answer} (w : Word) (h : e.answers = a :: as) :
    afterAnswer w e = { e with answers := as, bus := e.bus ++ [{ out := w, answer := a }] } := by
  rw [afterAnswer, h]

/-- The environment's side after one byte: the word on the trace, one answer used. -/
theorem afterByte_env {s : State} (c : Byte) {as : List Answer} (h : s.env.answers = .ok 0x4000#16 :: as) :
    (afterByte s c).env.answers = as ∧
    (afterByte s c).env.bus = s.env.bus ++ [{ out := enc (.txd s.fmt c), answer := .ok 0x4000#16 }] := by
  have henv : (afterByte s c).env = afterAnswer (enc (.txd s.fmt c)) (afterMove s.env) := rfl
  rw [henv, afterAnswer_of_answers _ ((afterMove_answers s.env).trans h), afterMove_bus]
  exact ⟨rfl, rfl⟩

/-! ### The whole queue -/

/-- What the transmit loop leaves after it has sent the queue of `s`, byte by byte, ending in `t` (R246). -/
structure Flushed (s t : State) : Prop where
  bus : t.env.bus =
    s.env.bus ++ (queued s).map fun c => { out := enc (.txd s.fmt c), answer := .ok 0x4000#16 : Exchange }
  length : (queued s).length = qCount s
  head : t.head = s.head
  tail : t.tail = s.head
  de : t.de = .on
  os : t.os = none
  phase : t.phase = .tx
  dl : t.dl = max s.dl s.now + qCount s * s.hold
  ntx : t.ctr.ntx = s.ctr.ntx + qCount s

theorem flushed_afterByte {s : State} {c : Byte} {as : List Answer} (hi : Inv s) (hn : qCount s = 1)
    (hc : s.mem.read s.tail = some c) (hans : s.env.answers = .ok 0x4000#16 :: as) : Flushed s (afterByte s c) := by
  have hadv := queueAdvanced_afterByte s c
  have hqueued : queued s = [c] := by rw [hadv.queued_eq hi hn hc, queued_of_empty (hadv.qCount_eq hi hn)]
  have htail : advance 1 s.tail s = s.head := by
    rw [advance, ← hn]
    exact tail_add_qCount hi.headInRange hi.tailInRange
  obtain ⟨-, hbus⟩ := afterByte_env c hans
  exact {
    bus := by rw [hbus, hqueued]; rfl
    length := by rw [hqueued, hn]; rfl
    head := rfl
    tail := htail
    de := rfl
    os := rfl
    phase := rfl
    dl := by rw [hn, Nat.one_mul]; rfl
    ntx := by rw [hn]; rfl }

/-- One byte and then the others: the deadline each byte leaves is past the clock, so the next one adds its hold to it (R204). -/
theorem Flushed.cons {s t : State} {c : Byte} {as : List Answer} {n : Nat} (hi : Inv s) (hn : qCount s = n + 1)
    (hc : s.mem.read s.tail = some c) (hans : s.env.answers = .ok 0x4000#16 :: as) (h : Flushed (afterByte s c) t) :
    Flushed s t := by
  have hadv := queueAdvanced_afterByte s c
  have hqueued : queued s = c :: queued (afterByte s c) := hadv.queued_eq hi hn hc
  have hcount : qCount (afterByte s c) = n := hadv.qCount_eq hi hn
  have hdl : max (max s.dl s.now + s.hold) s.now = max s.dl s.now + s.hold := by omega
  have hntx : (afterByte s c).ctr.ntx = s.ctr.ntx + 1 := rfl
  obtain ⟨-, hbus⟩ := afterByte_env c hans
  exact {
    bus := by rw [h.bus, hbus, hqueued, List.map_cons, List.append_assoc]; rfl
    length := by rw [hqueued, List.length_cons, h.length, hcount, hn]
    head := h.head
    tail := h.tail
    de := h.de
    os := h.os
    phase := h.phase
    dl := by
      rw [h.dl, hcount, hn, Nat.succ_mul, Nat.add_comm (n * s.hold), ← Nat.add_assoc, ← hdl]
      rfl
    ntx := by rw [h.ntx, hcount, hn, hntx, Nat.add_assoc, Nat.add_comm 1 n] }

/-- The loop over a queue of `n + 1` bytes, with as many moves of the worker and answers of the bus. -/
theorem run_flushes (n : Nat) {s : State} {moves : List Move} {answers : List Answer} (h : Sending s) (hn : qCount s = n + 1)
    (hagenda : s.env.agenda = List.replicate (n + 1) .worker ++ moves)
    (hans : s.env.answers = List.replicate (n + 1) (.ok 0x4000#16) ++ answers) :
    ∃ t, core.run (n + 1) s = .next t ∧ Flushed s t := by
  induction n generalizing s with
  | zero =>
    obtain ⟨c, hc, hstep⟩ := step_of_sending h (by omega) (nextMove_of_agenda hagenda) hans
    exact ⟨afterByte s c, run_succ_of_step hstep 0, flushed_afterByte h.inv hn hc hans⟩
  | succ n ih =>
    rw [List.replicate_succ, List.cons_append] at hagenda hans
    obtain ⟨c, hc, hstep⟩ := step_of_sending h (by omega) (nextMove_of_agenda hagenda) hans
    obtain ⟨hans', -⟩ := afterByte_env c hans
    obtain ⟨t, hrun, ht⟩ := ih (sending_afterByte h hstep) ((queueAdvanced_afterByte s c).qCount_eq h.inv hn)
      (afterByte_agenda c hagenda) hans'
    exact ⟨t, (run_succ_of_step hstep (n + 1)).trans hrun, ht.cons h.inv hn hc hans⟩

/-- Settles O59: the loop's induction, started with the queue the statement gives it. -/
theorem transmitLoopFlushesTheQueue : Obligations.TransmitLoopFlushesTheQueue := by
  intro s moves answers hi ha hp hstop hsusp hflow htxe hq hagenda hans
  obtain ⟨n, hn⟩ : ∃ n, qCount s = n + 1 := Nat.exists_eq_add_one.2 hq
  have hsending : Sending s := ⟨hi, ha, hp, hstop, hsusp, hflow, htxe⟩
  obtain ⟨t, hrun, ht⟩ := run_flushes n hsending hn (hn ▸ hagenda) (hn ▸ hans)
  rw [← hn] at hrun
  exact ⟨t, hrun, ht.bus, ht.length, ht.head, ht.tail, ht.de, ht.os, ht.phase, ht.dl, ht.ntx⟩

end Sys2Proof.Machine
end

section
/-!
The race of a resume with the `End` of a halted activation (log entry 9): four steps, of the host, the worker, the one-shot and the
worker again, that put the disable word before the commit.
-/

namespace Sys2Proof.Machine

/-- A resumed line that still owes its commit, with nothing to send and an enable that may be dropped: every test of R208 but the
pending disable itself is met. -/
structure CommitOwed (s : State) : Prop where
  attached : s.attached = true
  line : s.line = .active
  noStop : s.pend.stop = false
  noSuspend : s.pend.susp = false
  commit : s.pend.cfg = true
  notStarted : s.pend.txs = false
  empty : s.head = s.tail
  enabled : s.de ≠ .off
  due : s.dl ≤ s.now

/-- A step by which the trace stays and the agenda is that after the choice of the agent. -/
def StepsQuietly (s t : State) : Prop :=
  step s = .next t ∧ t.env.bus = s.env.bus ∧ t.env.agenda = s.chosen.env.agenda

theorem step_of_host {s : State} {r : Request} (ha : s.attached = true) (hm : nextMove s.env = .host r) :
    step s = .next (hostStep r s.chosen) := by
  simp [step, ha, hm, producerStep]

/-- A resume of a suspended line (R284). -/
theorem resume_of_suspended {s : State} (hl : s.line = .suspended) (hstop : s.pend.stop = false) :
    resume s = reply .ok
      (setAndWake (fun p => { p with cfg := true }) { s with line := .active, armed := true, npoll := pollRestart s }) := by
  simp [resume, hl, hstop]

/-- The host resumes the line while the worker is at `End`: the commit is owed, and the worker is still there. -/
theorem commitOwed_of_resume {s : State} (hi : Inv s) (ha : s.attached = true) (hm : nextMove s.env = .host .resume)
    (hl : s.line = .suspended) (hstop : s.pend.stop = false) (htxs : s.pend.txs = false) (hq : s.head = s.tail)
    (hde : s.de = .unknown) (hdl : s.dl ≤ s.now) :
    ∃ t, StepsQuietly s t ∧ CommitOwed t ∧ t.phase = s.phase ∧ t.os = s.os ∧ t.pend.dis = s.pend.dis ∧ t.fail = s.fail := by
  have hsusp : s.pend.susp = false := by simpa [hl] using hi.suspendIffSuspending
  have hresume : hostStep .resume s.chosen = _ := resume_of_suspended (s := s.chosen) hl hstop
  refine ⟨_, ⟨(step_of_host ha hm).trans (congrArg _ hresume), afterMove_bus s.env, rfl⟩, ?_, rfl, rfl, rfl, rfl⟩
  have hde' : s.de ≠ .off := by simp [hde]
  exact ⟨ha, rfl, hstop, hsusp, rfl, htxs, hq, hde', hdl⟩

/-- That `End` arms the one-shot to a deadline already past, and loops because the commit is owed (R206, R244). -/
theorem end_arms_of_commitOwed {s : State} (h : CommitOwed s) (hm : nextMove s.env = .worker) (hp : s.phase = .endPass)
    (hos : s.os = none) (hdis : s.pend.dis = false) (hfail : s.fail = false) :
    ∃ t, StepsQuietly s t ∧ CommitOwed t ∧ t.phase = .top ∧ t.os = some t.dl := by
  have hstep := endArmsThenLoopsOrParks s h.attached hm hp
  have hgo : ¬(s.fail = true ∨ s.line = .suspended) := by simp [hfail, h.line]
  rw [if_pos ⟨h.empty, h.enabled, hos, hdis, h.line⟩, if_neg hgo, if_pos (by simp [h.commit])] at hstep
  refine ⟨_, ⟨hstep, ?_, deliver_agenda s.chosen⟩, ?_, rfl, ?_⟩
  · exact (deliver_bus s.chosen).trans (afterMove_bus s.env)
  · rw [deliver_frame]
    exact ⟨h.attached, h.line, h.noStop, h.noSuspend, h.commit, h.notStarted, h.empty, h.enabled, h.due⟩
  · rw [deliver_frame]

/-- The one-shot fires, because the deadline is past (R207). -/
theorem fire_of_commitOwed {s : State} (h : CommitOwed s) (hm : nextMove s.env = .fire) (hos : s.os = some s.dl) :
    ∃ t, StepsQuietly s t ∧ CommitOwed t ∧ t.phase = s.phase ∧ t.pend.dis = true := by
  refine ⟨_, ⟨(step_of_fire h.attached hm).trans (congrArg _ (fire_of_due (s := s.chosen) hos h.due)),
    afterMove_bus s.env, rfl⟩, ?_, rfl, rfl⟩
  exact ⟨h.attached, h.line, h.noStop, h.noSuspend, h.commit, h.notStarted, h.empty, h.enabled, h.due⟩

/-- The disable word does not touch the pending commit, answered or not (R148, R242). -/
theorem cfg_of_exec_deoff {s t : State} (h : exec .deoff s = .next t) : t.pend.cfg = s.pend.cfg := by
  cases h
  rw [dropEnable]
  obtain ⟨-, e⟩ | ⟨r, -, e⟩ := exchange_cases _ _ _ s <;> rw [e]
  · rfl
  · rw [deoffOk, goto_pend, capture_pend]
    rfl

/-- `Top` takes the disable before the commit, and R208 lets it through (R236). -/
theorem deoff_of_commitOwed {s : State} (h : CommitOwed s) (hm : nextMove s.env = .worker) (hp : s.phase = .top)
    (hdis : s.pend.dis = true) :
    ∃ t a, step s = .next t ∧ t.env.bus = s.env.bus ++ [{ out := 0x8400#16, answer := a }] ∧ t.pend.cfg = true := by
  have hplan : workerPlan s.chosen = .issue .deoff (setPend (fun p => { p with dis := false }) s.chosen) :=
    (workerPlan_of_disable (s := s.chosen) hp h.noStop h.noSuspend (by simp [h.line]) hdis).trans
      (disableEvaluation_of_due (s := s.chosen) h.notStarted h.empty h.enabled h.due)
  obtain ⟨t, hstep, hx, hbus⟩ := exec_of_issue h.attached hm hplan
  exact ⟨t, _, hstep, hbus, (cfg_of_exec_deoff hx).trans h.commit⟩

/-- Settles O60: the four steps one after another. -/
theorem resumeRaceDropsTheEnableFirst : Obligations.ResumeRaceDropsTheEnableFirst := by
  intro s rest hi ha hl hp hde hos hstop hdis htxs hfail hq hdl hagenda
  obtain ⟨u, ⟨hu, hubus, huag⟩, owed, hup, huos, hudis, hufail⟩ :=
    commitOwed_of_resume hi ha (nextMove_of_agenda hagenda) hl hstop htxs hq hde hdl
  rw [chosen_agenda hagenda] at huag
  obtain ⟨v, ⟨hv, hvbus, hvag⟩, owed, hvp, hvos⟩ := end_arms_of_commitOwed owed (nextMove_of_agenda huag)
    (hup.trans hp) (huos.trans hos) (hudis.trans hdis) (hufail.trans hfail)
  rw [chosen_agenda huag] at hvag
  obtain ⟨w, ⟨hw, hwbus, hwag⟩, owed, hwp, hwdis⟩ := fire_of_commitOwed owed (nextMove_of_agenda hvag) hvos
  rw [chosen_agenda hvag] at hwag
  obtain ⟨t, a, ht, htbus, hcfg⟩ := deoff_of_commitOwed owed (nextMove_of_agenda hwag) (hwp.trans hvp) hwdis
  refine ⟨t, a, ?_, ?_, hcfg⟩
  · rw [run_succ_of_step hu, run_succ_of_step hv, run_succ_of_step hw, run_succ_of_step ht]
    rfl
  · rw [htbus, hwbus, hvbus, hubus]

end Sys2Proof.Machine
end

section
/-!
The host's requests: one equation for what each accepted request does, from which the statements
about single requests and the acceptance matrix follow (R270 to R291).
-/

namespace Sys2Proof.Machine

/-- The host's step on an existing Port ends in the state its request leads to. -/
theorem step_of_request {s t : State} {r : Request} (ha : s.attached = true) (hm : nextMove s.env = .host r)
    (h : hostStep r s.chosen = t) : step s = .next t := by
  rw [step_of_host ha hm, h]

/-! ### Opening (R274) -/

theorem openPort_of_shutdown {s : State} (hl : s.line = .shutdown) :
    openPort s = reply .ok (setAndWake (fun p => { p with cfg := true })
      { s with line := .starting, txstop := false, armed := true, npoll := pollRestart s, phase := .parked }) :=
  if_pos hl

/-- Settles O40: the equation of an accepted open. -/
theorem openStartsTheLine : Obligations.OpenStartsTheLine :=
  fun s ha hm hl => step_of_request ha hm (openPort_of_shutdown (s := s.chosen) hl)

/-! ### Format requests (R276) -/

/-- Each fallback is counted and logged, in order, all at one time (R179, R314). -/
theorem foldl_noteFallback (fs : List Fallback) (s : State) :
    fs.foldl noteFallback s =
      { s with ctr := { s.ctr with nfallback := s.ctr.nfallback + fs.length }
               log := s.log ++ fs.map fun f => { event := .formatFallback f, time := s.now } } := by
  induction fs generalizing s with
  | nil => simp
  | cons f fs ih =>
    rw [List.foldl_cons, ih]
    simp [noteFallback, Nat.add_assoc, Nat.add_comm 1]

theorem setFormat_of_active {s : State} (baud wlen : Nat) (par : ReqParity) (stop : Nat) (hl : s.line = .active)
    (hstop : s.pend.stop = false) :
    setFormat baud wlen par stop s =
      { s with stg := (resolve s.board baud wlen par stop s.stg).1
               pend := { s.pend with cfg := true }, wake := true
               ctr := { s.ctr with nfallback := s.ctr.nfallback + (resolve s.board baud wlen par stop s.stg).2.length }
               log := s.log ++
                 (resolve s.board baud wlen par stop s.stg).2.map fun f => { event := .formatFallback f, time := s.now }
               env := { s.env with replies := s.env.replies ++ [.ok] } } := by
  rw [setFormat, if_pos ⟨hl, hstop⟩]
  dsimp only
  rw [foldl_noteFallback]
  rfl

/-- Settles O41: the equation of an accepted format request. -/
theorem setFormatStagesTheRequest : Obligations.SetFormatStagesTheRequest :=
  fun s b w p st ha hm hl hstop => step_of_request ha hm (setFormat_of_active (s := s.chosen) b w p st hl hstop)

/-! ### Flush, flow control and close (R278 to R280, R286) -/

theorem flush_of_acceptsWork {s : State} (h : acceptsWork s = true) :
    flush s = reply .ok (setAndWake (fun p => { p with fls := true, txn := true }) s) := if_pos h

theorem stopTx_of_acceptsWork {s : State} (h : acceptsWork s = true) : stopTx s = reply .ok { s with txstop := true } :=
  if_pos h

theorem startTx_of_acceptsWork {s : State} (h : acceptsWork s = true) :
    startTx s = reply .ok (setAndWake (fun p => { p with txs := true }) { s with txstop := false }) := if_pos h

theorem close_of_acceptsWork {s : State} (h : acceptsWork s = true) :
    close s = reply .ok (setAndWake (fun p => { p with stop := true }) s) := if_pos h

/-- Settles O42: the four equations, under the guard the four requests share. -/
theorem flushFlowControlAndClose : Obligations.FlushFlowControlAndClose := by
  intro s ha hl hstop
  have hacc : acceptsWork s.chosen = true := (acceptsWork_iff s.chosen).2 ⟨hl, hstop⟩
  exact ⟨fun hm => step_of_request ha hm (flush_of_acceptsWork hacc),
    fun hm => step_of_request ha hm (stopTx_of_acceptsWork hacc),
    fun hm => step_of_request ha hm (startTx_of_acceptsWork hacc),
    fun hm => step_of_request ha hm (close_of_acceptsWork hacc)⟩

/-! ### Queries (R281, R289) -/

/-- Settles O43: neither query has a guard, and set_mctrl is a nop. -/
theorem queriesChangeNothing : Obligations.QueriesChangeNothing := fun _ ha =>
  ⟨fun hm => step_of_request ha hm rfl, fun hm => step_of_request ha hm rfl, fun _ hm => step_of_request ha hm rfl⟩

/-! ### Suspend and resume (R282, R284) -/

theorem suspend_of_up {s : State} (hl : s.line = .starting ∨ s.line = .active) (hstop : s.pend.stop = false) :
    suspend s = reply .ok (setAndWake (fun p => { p with susp := true }) { s with line := .suspending }) :=
  if_pos ⟨hl, hstop⟩

/-- A resume of a line whose suspend is still on its way takes that back (R284). -/
theorem resume_of_suspending {s : State} (hl : s.line = .suspending) (hstop : s.pend.stop = false) :
    resume s = reply .ok (setAndWake (fun p => { p with susp := false, cfg := true }) { s with line := .active }) := by
  simp [resume, hl, hstop]

/-- A resume of a line that is neither, or that is being stopped, does nothing (R284, R291). -/
theorem resume_of_idle {s : State} (h : s.pend.stop = true ∨ s.line ≠ .suspended ∧ s.line ≠ .suspending) :
    resume s = reply .ok s := by
  unfold resume
  split
  · rfl
  next hstop =>
    obtain ⟨hsusp, hsusping⟩ := h.resolve_left hstop
    split
    next hl => exact absurd hl hsusp
    next hl => exact absurd hl hsusping
    next => rfl

/-- Settles O44: the equations of the two requests. -/
theorem suspendAndResumeRequests : Obligations.SuspendAndResumeRequests := fun s ha hstop =>
  ⟨fun hm hl => step_of_request ha hm (suspend_of_up (s := s.chosen) hl hstop),
    fun hm hl => step_of_request ha hm (resume_of_suspended (s := s.chosen) hl hstop),
    fun hm hl => step_of_request ha hm (resume_of_suspending (s := s.chosen) hl hstop)⟩

/-! ### Detach and attach (R271, R288) -/

theorem detach_of_shutdown {s : State} (hl : s.line = .shutdown) : detach s = reply .ok { s with attached := false } :=
  if_pos hl

theorem detachedStep_of_not_attach {m : Move} (hm : ∀ a t, m ≠ .host (.attach a t)) (s : State) : detachedStep m s = s := by
  unfold detachedStep
  split
  next a t => exact absurd rfl (hm a t)
  next => rfl

/-- Settles O45: the step that ends the Port, and the three kinds of step without one. -/
theorem detachAndAttach : Obligations.DetachAndAttach := by
  refine ⟨fun s ha hm hl => ?_, fun s ha hm => ?_, fun s t ha hm => ?_, fun s t ha hm => ?_⟩
  · exact step_of_request ha hm (detach_of_shutdown (s := s.chosen) hl)
  · rw [step_of_detached ha, detachedStep_of_not_attach hm]
    rfl
  · rw [step_of_detached ha, hm]
    rfl
  · rw [step_of_detached ha, hm]
    rfl

/-! ### Push (R272) -/

/-- What does not fit is counted and logged, where there is anything. -/
theorem noteFull_eq_counted (short : Nat) (s : State) :
    noteFull short s =
      { s with ctr := { s.ctr with nqfull := s.ctr.nqfull + short }
               log := s.log ++ if short = 0 then [] else [{ event := .queueFull short, time := s.now }] } := by
  unfold noteFull
  split
  next h => simp [h]
  next => rfl

/-- The flag and the wake are set only if something was queued. -/
theorem setAndWake_txs_unless_zero (n : Nat) (s : State) :
    (if n = 0 then s else setAndWake (fun p => { p with txs := true }) s) =
      { s with pend := { s.pend with txs := s.pend.txs || decide (0 < n) }, wake := s.wake || decide (0 < n) } := by
  cases n with
  | zero => simp
  | succ n => simp [setAndWake]

theorem push_of_acceptsWork {s : State} {l : List Byte} {n : Nat} (h : acceptsWork s = true)
    (hn : n = min l.length (s.board.xmitCap - 1 - qCount s)) :
    push l s =
      { s with mem := writeSlots s.board.xmitCap s.mem s.head (l.take n), head := advance n s.head s
               ctr := { s.ctr with nqfull := s.ctr.nqfull + (l.length - n) }
               log := s.log ++
                 if l.length - n = 0 then [] else [{ event := .queueFull (l.length - n), time := s.now }]
               pend := { s.pend with txs := s.pend.txs || decide (0 < n) }, wake := s.wake || decide (0 < n)
               env := { s.env with replies := s.env.replies ++ [.queued n] } } := by
  rw [push, if_pos h]
  dsimp only
  rw [← hn, setAndWake_txs_unless_zero, noteFull_eq_counted]
  rfl

/-- Settles O39: the equation of an accepted push, and what its run of slots then holds. -/
theorem pushQueuesTheLeadingBytes : Obligations.PushQueuesTheLeadingBytes := by
  intro s l ha hm hl hstop
  dsimp only
  generalize hn : min l.length (s.board.xmitCap - 1 - qCount s) = n
  have hlen : (l.take n).length = n := List.length_take_of_le (by omega)
  refine ⟨writeSlots s.board.xmitCap s.mem s.head (l.take n), fun i hi => ?_, fun x hx => ?_, ?_⟩
  · rw [writeSlots_read _ _ _ _ i (by omega) (by omega), List.getElem?_take_of_lt hi]
  · exact writeSlots_read_other _ _ _ _ x (by rwa [hlen])
  · exact step_of_request ha hm (push_of_acceptsWork (s := s.chosen) ((acceptsWork_iff s.chosen).2 ⟨hl, hstop⟩) hn.symm)

end Sys2Proof.Machine
end

section
/-!
The acceptance matrix: each request's own guard is the matrix's, in every state a Port can be in (R291).
-/

namespace Sys2Proof.Machine

/-- The state `t` after the request `r` in the state `s` is what the matrix's verdict says (R291, R273). -/
def Follows (v : Verdict) (r : Request) (s t : State) : Prop :=
  match v with
  | .refused => ∃ q, requestName r = some q ∧ t = refuseWith q (refusalReply r) s
  | .nop => t = reply .ok s
  | .accepted => ∃ a, t.ctr.nrej = s.ctr.nrej ∧ t.env.replies = s.env.replies ++ [a] ∧ a ≠ .notAccepted

/-- A request follows a verdict with the same guard if each of its two outcomes does. -/
theorem follows_ite {c : Prop} [Decidable c] {v v' : Verdict} {r : Request} {s t u : State}
    (hv : v = if c then .accepted else v') (ht : Follows .accepted r s t) (hu : Follows v' r s u) :
    Follows v r s (if c then t else u) := by
  subst hv
  by_cases hc : c
  · rw [if_pos hc, if_pos hc]
    exact ht
  · rw [if_neg hc, if_neg hc]
    exact hu

/-- An accepted request that answers `Ok` and counts no refusal. -/
theorem follows_ok {r : Request} {s t : State} (hctr : t.ctr.nrej = s.ctr.nrej)
    (henv : t.env.replies = s.env.replies ++ [.ok]) : Follows .accepted r s t := ⟨.ok, hctr, henv, nofun⟩

/-! ### The guards of the matrix -/

/-- Push, flush, flow control and close: the line is up and not being stopped (R291). -/
theorem verdict_work {r : Request} (s : State)
    (hr : ∀ l b, verdict r l b = if b then .refused else if l = .shutdown then .refused else .accepted) :
    verdict r s.line s.pend.stop = if acceptsWork s then .accepted else .refused := by
  rw [hr]
  cases hstop : s.pend.stop <;> simp [acceptsWork, hstop]

/-- Nothing is pending on a shut-down line (R237). -/
theorem Inv.noStop_of_shutdown {s : State} (hi : Inv s) (hl : s.line = .shutdown) : s.pend.stop = false := by
  obtain ⟨hpend, -⟩ := hi.shutdownQuiet hl
  rw [hpend]
  rfl

/-- Open and detach: the line is shut down; no stop can then be requested (R291). -/
theorem verdict_shutdown {r : Request} {s : State} (hi : Inv s)
    (hr : ∀ l b, verdict r l b = if b then .refused else if l = .shutdown then .accepted else .refused) :
    verdict r s.line s.pend.stop = if s.line = .shutdown then .accepted else .refused := by
  rw [hr]
  by_cases hl : s.line = .shutdown
  · simp [hl, hi.noStop_of_shutdown hl]
  · simp [hl]

theorem verdict_setFormat (b w : Nat) (p : ReqParity) (st : Nat) (s : State) :
    verdict (.setFormat b w p st) s.line s.pend.stop =
      if s.line = .active ∧ s.pend.stop = false then .accepted else .refused := by
  cases hstop : s.pend.stop <;> simp [verdict]

theorem verdict_suspend (s : State) :
    verdict .suspend s.line s.pend.stop =
      if (s.line = .starting ∨ s.line = .active) ∧ s.pend.stop = false then .accepted else .nop := by
  cases hstop : s.pend.stop <;> simp [verdict]

/-! ### Each request -/

theorem follows_push (l : List Byte) (s : State) : Follows (verdict (.push l) s.line s.pend.stop) (.push l) s (push l s) := by
  rw [verdict_work s fun _ _ => rfl]
  by_cases hacc : acceptsWork s = true
  · rw [if_pos hacc, push_of_acceptsWork hacc rfl]
    exact ⟨.queued _, rfl, rfl, nofun⟩
  · rw [if_neg hacc]
    exact ⟨.push, rfl, if_neg hacc⟩

theorem follows_setFormat (b w : Nat) (p : ReqParity) (st : Nat) (s : State) :
    Follows (verdict (.setFormat b w p st) s.line s.pend.stop) (.setFormat b w p st) s (setFormat b w p st s) := by
  rw [verdict_setFormat]
  by_cases h : s.line = .active ∧ s.pend.stop = false
  · obtain ⟨hl, hstop⟩ := h
    rw [if_pos ⟨hl, hstop⟩, setFormat_of_active b w p st hl hstop]
    exact follows_ok rfl rfl
  · rw [if_neg h]
    exact ⟨.setFormat, rfl, if_neg h⟩

theorem follows_resume (s : State) : Follows (verdict .resume s.line s.pend.stop) .resume s (resume s) := by
  cases hstop : s.pend.stop with
  | true => exact resume_of_idle (.inl hstop)
  | false =>
    cases hl : s.line with
    | suspended => rw [resume_of_suspended hl hstop]; exact follows_ok rfl rfl
    | suspending => rw [resume_of_suspending hl hstop]; exact follows_ok rfl rfl
    | shutdown | starting | active => exact resume_of_idle (.inr (by simp [hl]))

/-- Every request on an existing Port follows the matrix (R270, R291). -/
theorem hostStep_follows_verdict {s : State} (r : Request) (hi : Inv s) :
    Follows (verdict r s.line s.pend.stop) r s (hostStep r s) := by
  cases r with
  | attach => exact ⟨_, rfl, rfl⟩
  | setMctrl => exact rfl
  | push l => exact follows_push l s
  | setFormat b w p st => exact follows_setFormat b w p st s
  | flush | stopTx | startTx | close =>
    exact follows_ite (verdict_work s fun _ _ => rfl) (follows_ok rfl rfl) ⟨_, rfl, rfl⟩
  | openPort | detach =>
    exact follows_ite (verdict_shutdown hi fun _ _ => rfl) (follows_ok rfl rfl) ⟨_, rfl, rfl⟩
  | queryModem | queryTxe => exact ⟨_, rfl, rfl, nofun⟩
  | suspend => exact follows_ite (verdict_suspend s) (follows_ok rfl rfl) rfl
  | resume => exact follows_resume s

/-- Settles O38: the host's step follows the matrix, whichever verdict that gives. -/
theorem acceptanceMatrix : Obligations.AcceptanceMatrix := by
  intro s r hi ha hm
  have hfollows : Follows (verdict r s.line s.pend.stop) r s.chosen (hostStep r s.chosen) :=
    hostStep_follows_verdict r (inv_chosen hi)
  refine ⟨fun hv => ?_, fun hv => ?_, fun hv => ?_⟩ <;> rw [hv] at hfollows
  · obtain ⟨q, hq, h⟩ := hfollows
    exact ⟨q, hq, step_of_request ha hm h⟩
  · exact step_of_request ha hm hfollows
  · obtain ⟨a, hctr, hreply, hne⟩ := hfollows
    exact ⟨_, a, step_of_host ha hm, hctr, hreply, hne⟩

end Sys2Proof.Machine
end

section
/-!
The line state: open, suspend and resume move it for the host, a commit and a power-down for the worker, and nothing else does
(R290).
-/

namespace Sys2Proof.Machine

/-- One agent's step on the line state: it stays, or takes one of the listed transitions (R290). -/
def LineStep (m : Move) (a b : LineState) : Prop := b = a ∨ LineTransition m a b

/-- A guard between two outcomes: the shape of every request and source that may be refused or idle. -/
theorem lineStep_ite {c : Prop} [Decidable c] {m : Move} {a : LineState} {t u : State} (ht : c → LineStep m a t.line)
    (hu : LineStep m a u.line) : LineStep m a (if c then t else u).line := by
  split
  next hc => exact ht hc
  next => exact hu

/-- A guard between two outcomes that leave the line. -/
theorem line_ite {c : Prop} [Decidable c] {a : LineState} {t u : State} (ht : t.line = a) (hu : u.line = a) :
    (if c then t else u).line = a := by
  split
  · exact ht
  · exact hu

/-! ### The host -/

theorem push_line (l : List Byte) (s : State) : (push l s).line = s.line := by
  cases hacc : acceptsWork s with
  | true => rw [push_of_acceptsWork hacc rfl]
  | false => rw [push, hacc]; rfl

theorem setFormat_line (baud wlen : Nat) (par : ReqParity) (stop : Nat) (s : State) :
    (setFormat baud wlen par stop s).line = s.line := by
  unfold setFormat
  dsimp only
  rw [foldl_noteFallback]
  exact line_ite rfl rfl

theorem lineStep_openPort (s : State) : LineStep (.host .openPort) s.line (openPort s).line :=
  lineStep_ite (fun hl => .inr (.inl ⟨hl, rfl, rfl⟩)) (.inl rfl)

theorem lineStep_suspend (s : State) : LineStep (.host .suspend) s.line (suspend s).line :=
  lineStep_ite (fun ⟨hl, _⟩ => .inr (.inr (.inr (.inl ⟨hl, rfl, rfl⟩)))) (.inl rfl)

theorem lineStep_resume (s : State) : LineStep (.host .resume) s.line (resume s).line := by
  have moved (h : s.line = .suspending ∨ s.line = .suspended) : LineStep (.host .resume) s.line .active :=
    .inr (.inr (.inr (.inr (.inr (.inl ⟨h, rfl, rfl⟩)))))
  refine lineStep_ite (fun _ => .inl rfl) ?_
  split
  next hl => exact moved (.inr hl)
  next hl => exact moved (.inl hl)
  next => exact .inl rfl

/-- Of the requests only open, suspend and resume move the line (R290). -/
theorem lineStep_hostStep (r : Request) (s : State) : LineStep (.host r) s.line (hostStep r s).line := by
  cases r with
  | attach | queryModem | queryTxe | setMctrl => exact .inl rfl
  | flush | stopTx | startTx | close | detach => exact .inl (line_ite rfl rfl)
  | push l => exact .inl (push_line l s)
  | setFormat b w p st => exact .inl (setFormat_line b w p st s)
  | openPort => exact lineStep_openPort s
  | suspend => exact lineStep_suspend s
  | resume => exact lineStep_resume s

/-! ### The other agents beside the worker -/

theorem poll_line (s : State) : (poll s).line = s.line := by
  unfold poll
  split
  · exact line_ite rfl rfl
  · rfl

theorem fire_line (s : State) : (fire s).line = s.line := by
  unfold fire
  split
  · exact line_ite rfl rfl
  · rfl

theorem lineStep_producerStep (m : Move) (s : State) : LineStep m s.line (producerStep m s).line := by
  cases m with
  | worker | tick => exact .inl rfl
  | host r => exact lineStep_hostStep r s
  | irq => exact .inl (line_ite rfl rfl)
  | poll => exact .inl (poll_line s)
  | fire => exact .inl (fire_line s)

/-- A Port attached anew is shut down (R350), as the detached one was (R288). -/
theorem detachedStep_line {s : State} (m : Move) (hl : s.line = .shutdown) : (detachedStep m s).line = s.line := by
  unfold detachedStep
  split
  · exact line_ite hl.symm rfl
  · rfl

/-! ### The worker -/

theorem line_of_topPlan {s t : State} (h : topPlan s = .silent t) : t.line = s.line := by
  obtain ⟨e, -⟩ | ⟨-, -, ⟨e, -⟩ | ⟨e, -⟩ | ⟨e, -⟩ | ⟨e, -⟩ | ⟨e, -⟩⟩ := topPlan_cases s <;> rw [e] at h
  case inr.inr.inl =>
    obtain ⟨e, -⟩ | ⟨e, -⟩ | ⟨e, -⟩ | ⟨e, -⟩ := disableEvaluation_cases s _ rfl <;> rw [e] at h <;> cases h <;> rfl
  all_goals cases h <;> rfl

/-- Without a transaction the worker leaves the line (R290). -/
theorem line_of_silent {s t : State} (h : workerPlan s = .silent t) : t.line = s.line := by
  unfold workerPlan at h
  cases hp : s.phase with simp only [hp] at h
  | exited => cases h; rfl
  | parked => split at h <;> cases h <;> rfl
  | top => exact line_of_topPlan h
  | drain k =>
    obtain ⟨e, -⟩ | ⟨e, -⟩ := drainPlan_cases s <;> rw [e] at h <;> cases h
    exact deliver_line s
  | tx =>
    obtain ⟨e, -⟩ | ⟨-, ⟨e, -⟩ | ⟨-, -, -, ⟨c, -, e⟩ | ⟨-, e⟩⟩⟩ := txPlan_cases s <;> rw [e] at h <;> cases h <;> rfl
  | endPass => cases h; exact endStep_line s

/-- An exchange takes a step on the line if what follows each of its answers does. -/
theorem lineStep_exchange {w : Word} {onErr : State → State} {onOk : Word → State → State} {s : State}
    (hErr : ∀ u, u.line = s.line → LineStep .worker s.line (onErr u).line)
    (hOk : ∀ r u, u.line = s.line → LineStep .worker s.line (onOk r u).line) :
    LineStep .worker s.line (exchange w onErr onOk s).line := by
  obtain ⟨-, e⟩ | ⟨r, -, e⟩ := exchange_cases w onErr onOk s <;> rw [e]
  · exact hErr _ (exchanged_line w s)
  · exact hOk r _ (exchanged_line w s)

/-- An answered commit ends `Starting` (R146). -/
theorem lineStep_committed (l : LineState) : LineStep .worker l l.committed := by
  by_cases hl : l = .starting
  · subst hl
    exact .inr (.inr (.inl ⟨rfl, rfl, rfl⟩))
  · exact .inl (if_neg hl)

/-- The stop sequence shuts the line down, from wherever it was (R237). -/
theorem lineStep_shutdown (l : LineState) : LineStep .worker l .shutdown := by
  by_cases hl : l = .shutdown
  · exact .inl hl.symm
  · exact .inr (.inr (.inr (.inr (.inr (.inr ⟨hl, rfl, rfl⟩)))))

theorem lineStep_suspended {l : LineState} (hl : l = .suspending) : LineStep .worker l .suspended :=
  .inr (.inr (.inr (.inr (.inl ⟨hl, rfl, rfl⟩))))

theorem rdOk_line (r : Word) (s : State) : (rdOk r s).line = s.line := by
  obtain ⟨p, f, l, c, g, e, -, h⟩ := drainNext_frame r (capture r true (decodeData r (decodeStatus r s)))
  rw [rdOk, h]
  exact capture_line r true _

theorem lineStep_of_exec_pwrdn {st pe l : Bool} {b : BitVec 4} {s t : State} (hsusp : s.pend.susp = true → s.line = .suspending)
    (h : exec (.pwrdn st pe l b) s = .next t) : LineStep .worker s.line t.line := by
  cases h
  split
  · exact lineStep_exchange (fun _ _ => lineStep_shutdown _) fun _ _ _ => lineStep_shutdown _
  · split
    next hs => exact lineStep_exchange (fun _ => .inl) fun _ _ _ => lineStep_suspended (hsusp hs)
    next => exact lineStep_exchange (fun _ => .inl) fun _ _ => .inl

/-- Of the words only a commit and a power-down move the line; a suspend is pending only while the line waits for it (R290). -/
theorem lineStep_of_exec {i : Instr} {s t : State} (hsusp : s.pend.susp = true → s.line = .suspending)
    (h : exec i s = .next t) : LineStep .worker s.line t.line := by
  cases i with
  | cfg st pe l b =>
    cases h
    exact lineStep_exchange (s := setPend _ s) (fun _ => .inl) fun r u hu => hu ▸ lineStep_committed u.line
  | pwrdn st pe l b => exact lineStep_of_exec_pwrdn hsusp h
  | rd => cases h; exact lineStep_exchange (fun _ => .inl) fun r u hu => .inl ((rdOk_line r u).trans hu)
  | txd pt d => cases h; exact lineStep_exchange (fun _ => .inl) fun r u hu => .inl ((capture_line r false _).trans hu)
  | deoff => cases h; exact lineStep_exchange (fun _ => .inl) fun r u hu => .inl ((capture_line r false _).trans hu)
  | rc => cases h

/-- Settles O52: each kind of step is a step on the line of the agent that moves; one without a Port leaves it shut down. -/
theorem lineTransitionsAreTheListedOnes : Obligations.LineTransitionsAreTheListedOnes := by
  intro s t hi h
  obtain ⟨ha, rfl⟩ | ⟨-, -, rfl⟩ | ⟨-, -, hp⟩ | ⟨-, hm, k, u, i, hp, -, hx⟩ := step_cases s t h
  · exact .inl (detachedStep_line (s := s.chosen) _ (hi.detachedShutdown ha))
  · exact lineStep_producerStep _ s.chosen
  · exact .inl ((line_of_silent hp).trans (chosen_line s))
  · have hu : u.line = s.line ∧ u.pend.susp = s.pend.susp := by
      obtain ⟨rfl, -⟩ | ⟨-, rfl, -⟩ := workerPlan_issue s.chosen u k hp <;> exact ⟨rfl, rfl⟩
    obtain ⟨hline, hsusp⟩ := hu
    rw [hm, ← hline]
    exact lineStep_of_exec (fun h => hline.trans (hi.suspendIffSuspending.1 (hsusp.symm.trans h))) hx

end Sys2Proof.Machine
end

section
/-!
What no request writes (R327, R153): the fields the worker or the clock owns, gathered in one record that every request of the host
leaves as it was. Beside them stands the phase, which only an accepted open moves.
-/

namespace Sys2Proof.Machine

/-- The fields of a Port that the worker or the clock owns (R327), with the bus trace (R153). -/
structure WorkerOwned where
  bus     : List Exchange
  fmt     : Format
  hold    : Nat
  cts     : Bool
  txe     : Bool
  rxa     : Bool
  de      : DEState
  tail    : Nat
  tc      : Nat
  dl      : Nat
  os      : Option Nat
  outcome : Option DisableOutcome
  fail    : Bool
  now     : Nat
  rxbuf   : List RxChar
  chip    : ChipConfig
  dis     : Bool
  rxp     : Bool
  ntx     : Nat
  nrx     : Nat
  nperr   : Nat
  nferr   : Nat
  nxerr   : Nat
  ndrop   : Nat

/-- What the worker and the clock own of a state. -/
def State.workerOwned (s : State) : WorkerOwned :=
  { bus := s.env.bus, fmt := s.fmt, hold := s.hold, cts := s.cts, txe := s.txe, rxa := s.rxa, de := s.de, tail := s.tail
    tc := s.tc, dl := s.dl, os := s.os, outcome := s.outcome, fail := s.fail, now := s.now, rxbuf := s.rxbuf, chip := s.chip
    dis := s.pend.dis, rxp := s.pend.rxp, ntx := s.ctr.ntx, nrx := s.ctr.nrx, nperr := s.ctr.nperr, nferr := s.ctr.nferr
    nxerr := s.ctr.nxerr, ndrop := s.ctr.ndrop }

/-- A guard between two outcomes that agree in what `f` reads: the shape of every request and source that may be refused or
idle. -/
theorem reads_ite {α : Type} {f : State → α} {c : Prop} [Decidable c] {a : α} {t u : State} (ht : f t = a) (hu : f u = a) :
    f (if c then t else u) = a := by
  split
  · exact ht
  · exact hu

theorem chosen_workerOwned (s : State) : s.chosen.workerOwned = s.workerOwned :=
  congrArg (fun b => { s.workerOwned with bus := b }) (afterMove_bus s.env)

/-- A push writes the queue behind its write position, and counts only what did not fit (R272). -/
theorem push_workerOwned (l : List Byte) (s : State) : (push l s).workerOwned = s.workerOwned := by
  by_cases h : acceptsWork s = true
  · rw [push_of_acceptsWork h rfl]
    rfl
  · rw [push, if_neg h]
    rfl

/-- A format request writes the staged format, and counts only its fallbacks (R276). -/
theorem setFormat_workerOwned (baud wlen : Nat) (par : ReqParity) (stop : Nat) (s : State) :
    (setFormat baud wlen par stop s).workerOwned = s.workerOwned := by
  by_cases h : s.line = .active ∧ s.pend.stop = false
  · rw [setFormat_of_active baud wlen par stop h.1 h.2]
    rfl
  · rw [setFormat, if_neg h]
    rfl

theorem resume_workerOwned (s : State) : (resume s).workerOwned = s.workerOwned := by
  refine reads_ite rfl ?_
  split <;> rfl

/-- No request writes what the worker or the clock owns (R327). -/
theorem hostStep_workerOwned (r : Request) (s : State) : (hostStep r s).workerOwned = s.workerOwned := by
  cases r with
  | attach | queryModem | queryTxe | setMctrl => rfl
  | openPort | flush | stopTx | startTx | suspend | close | detach => exact reads_ite rfl rfl
  | push l => exact push_workerOwned l s
  | setFormat b w p st => exact setFormat_workerOwned b w p st s
  | resume => exact resume_workerOwned s

/-- The host moves the phase only by an open of a shut-down line (R274, R233). -/
theorem hostStep_phase_cases (r : Request) (s : State) :
    (hostStep r s).phase = s.phase ∨ r = .openPort ∧ s.line = .shutdown ∧ (hostStep r s).phase = .parked := by
  by_cases hr : r = .openPort
  · subst hr
    by_cases hl : s.line = .shutdown
    · have hopen : hostStep .openPort s = _ := openPort_of_shutdown hl
      exact .inr ⟨rfl, hl, by rw [hopen]; rfl⟩
    · have hrefused : hostStep .openPort s = refuse .openPort s := if_neg hl
      exact .inl (by rw [hrefused]; rfl)
  · exact .inl (hostStep_phase hr s)

/-- Settles O46: the fields of the record one by one, and the phase. -/
theorem hostNeverWritesWorkerFields : Obligations.HostNeverWritesWorkerFields := by
  intro s t r ha hm h
  rw [step_of_host ha hm] at h
  cases h
  have howned := (hostStep_workerOwned r s.chosen).trans (chosen_workerOwned s)
  have hphase := hostStep_phase_cases r s.chosen
  rw [chosen_phase, chosen_line] at hphase
  simp only [State.workerOwned, WorkerOwned.mk.injEq] at howned
  simpa only [and_assoc] using And.intro howned hphase

end Sys2Proof.Machine
end

section
/-!
The clock (R319, R45): its own step adds to it, and neither the worker nor any other agent moves it.
-/

namespace Sys2Proof.Machine

/-- The step of any agent beside the worker, on an existing Port (R80). -/
theorem step_of_producer {s : State} {m : Move} (ha : s.attached = true) (hm : nextMove s.env = m) (hw : m ≠ .worker) :
    step s = .next (producerStep m s.chosen) := by
  subst hm
  simp only [step, if_pos ha]

/-! ### Agents beside the worker -/

theorem hostStep_now (r : Request) (s : State) : (hostStep r s).now = s.now :=
  congrArg WorkerOwned.now (hostStep_workerOwned r s)

theorem poll_now (s : State) : (poll s).now = s.now := by
  unfold poll
  split
  · exact reads_ite rfl rfl
  · rfl

theorem fire_now (s : State) : (fire s).now = s.now := by
  unfold fire
  split
  · exact reads_ite rfl rfl
  · rfl

theorem producerStep_now {m : Move} (hm : ∀ d, m ≠ .tick d) (s : State) : (producerStep m s).now = s.now := by
  cases m with
  | worker => rfl
  | host r => exact hostStep_now r s
  | irq => exact reads_ite rfl rfl
  | poll => exact poll_now s
  | fire => exact fire_now s
  | tick d => exact absurd rfl (hm d)

/-! ### The worker's plans -/

/-- The plan's own state, where it has one, has the clock at `n`. -/
def Plan.AtTime (n : Nat) : Plan → Prop
  | .silent t => t.now = n
  | .issue _ u => u.now = n
  | .noByte => True

theorem atTime_disableEvaluation (s : State) : (disableEvaluation s).AtTime s.now := by
  obtain ⟨e, -⟩ | ⟨e, -⟩ | ⟨e, -⟩ | ⟨e, -⟩ := disableEvaluation_cases s _ rfl <;> rw [e] <;> exact rfl

theorem atTime_topPlan (s : State) : (topPlan s).AtTime s.now := by
  obtain ⟨e, -⟩ | ⟨-, -, ⟨e, -⟩ | ⟨e, -⟩ | ⟨e, -⟩ | ⟨e, -⟩ | ⟨e, -⟩⟩ := topPlan_cases s <;> rw [e]
  case inr.inr.inl => exact atTime_disableEvaluation s
  all_goals exact rfl

theorem atTime_drainPlan (s : State) : (drainPlan s).AtTime s.now := by
  obtain ⟨e, -⟩ | ⟨e, -⟩ := drainPlan_cases s <;> rw [e]
  · exact deliver_now s
  · exact rfl

theorem atTime_txPlan (s : State) : (txPlan s).AtTime s.now := by
  obtain ⟨e, -⟩ | ⟨-, ⟨e, -⟩ | ⟨-, -, -, ⟨c, -, e⟩ | ⟨-, e⟩⟩⟩ := txPlan_cases s <;> rw [e]
  case inr.inr.inr => exact trivial
  all_goals exact rfl

/-- Whatever the worker plans, in every phase, it plans at the time it began (R230). -/
theorem atTime_workerPlan (s : State) : (workerPlan s).AtTime s.now := by
  unfold workerPlan
  cases s.phase with
  | exited => exact rfl
  | parked => dsimp only; split <;> exact rfl
  | top => exact atTime_topPlan s
  | drain k => exact atTime_drainPlan s
  | tx => exact atTime_txPlan s
  | endPass => exact endStep_now s

/-! ### The transactions -/

/-- An exchange leaves the clock if what follows each of its answers does. -/
theorem now_exchange {w : Word} {onErr : State → State} {onOk : Word → State → State} {s : State}
    (hErr : ∀ u, (onErr u).now = u.now) (hOk : ∀ r u, (onOk r u).now = u.now) : (exchange w onErr onOk s).now = s.now := by
  obtain ⟨-, e⟩ | ⟨r, -, e⟩ := exchange_cases w onErr onOk s
  · rw [e, hErr, exchanged_now]
  · rw [e, hOk, exchanged_now]

theorem rdOk_now (r : Word) (s : State) : (rdOk r s).now = s.now := by
  obtain ⟨p, f, l, c, g, e, -, h⟩ := drainNext_frame r (capture r true (decodeData r (decodeStatus r s)))
  rw [rdOk, h]
  exact capture_now r true _

/-- A transaction takes no time of the clock's: it is one atomic step (R140, R319). -/
theorem now_of_exec {i : Instr} {s t : State} (h : exec i s = .next t) : t.now = s.now := by
  cases i with
  | cfg st pe l b => cases h; exact now_exchange (s := setPend _ s) (fun _ => rfl) fun _ _ => rfl
  | pwrdn st pe l b =>
    cases h
    exact reads_ite (now_exchange (fun _ => rfl) fun _ _ => rfl)
      (reads_ite (now_exchange (fun _ => rfl) fun _ _ => rfl) (now_exchange (fun _ => rfl) fun _ _ => rfl))
  | rd => cases h; exact now_exchange (fun _ => rfl) rdOk_now
  | txd pt d => cases h; exact now_exchange (fun _ => rfl) fun r _ => capture_now r false _
  | deoff => cases h; exact now_exchange (fun _ => rfl) fun r _ => capture_now r false _
  | rc => cases h

/-! ### One step of the machine -/

/-- Settles O36: the clock's own step, and that of each other agent. -/
theorem onlyTheClockAdvancesTime : Obligations.OnlyTheClockAdvancesTime := by
  intro s t ha h
  refine ⟨fun d hm => ?_, fun hm => ?_⟩
  · rw [step_of_producer ha hm nofun] at h
    cases h
    rfl
  · have hplan := atTime_workerPlan s.chosen
    obtain ⟨hd, -⟩ | ⟨-, -, rfl⟩ | ⟨-, -, hp⟩ | ⟨-, -, k, u, i, hp, -, hx⟩ := step_cases s t h
    · simp [hd] at ha
    · exact producerStep_now hm s.chosen
    · rw [hp] at hplan
      exact hplan
    · rw [hp] at hplan
      exact (now_of_exec hx).trans hplan

end Sys2Proof.Machine
end

section
/-!
The interrupt and the poll timer (R315, R316): what each does when its guard holds, that it does nothing otherwise, and how they merge
(R318).
-/

namespace Sys2Proof.Machine

/-- The interrupt line is present and the sources are armed (R315). -/
def IrqTaken (s : State) : Prop := s.board.activation.irqPresent = true ∧ s.armed = true

/-- The sources are armed and the poll timer is due (R316). -/
def PollDue (s : State) : Prop := s.armed = true ∧ s.npoll ≤ s.now

theorem irq_of_taken {s : State} (h : IrqTaken s) : irq s = setAndWake (fun p => { p with txn := true, rxp := true }) s :=
  if_pos (Bool.and_eq_true_iff.2 h)

theorem irq_of_not_taken {s : State} (h : ¬IrqTaken s) : irq s = s :=
  if_neg fun hg => h (Bool.and_eq_true_iff.1 hg)

theorem poll_of_no_period {s : State} (hp : s.board.activation.pollPeriod = none) : poll s = s := by
  rw [poll, hp]

theorem poll_of_due {s : State} {p : Nat} (hp : s.board.activation.pollPeriod = some p) (h : PollDue s) :
    poll s = setAndWake (fun f => { f with txn := true }) { s with npoll := s.now + p } := by
  obtain ⟨harmed, hdue⟩ := h
  simp [poll, hp, harmed, hdue]

theorem poll_of_not_due {s : State} (h : ¬PollDue s) : poll s = s := by
  unfold poll
  split
  next p hp => exact if_neg fun hg => h (by simpa [PollDue] using hg)
  next => rfl

/-- Settles O34: each source with its guard met and not met. -/
theorem interruptAndPollSetFlags : Obligations.InterruptAndPollSetFlags := by
  intro s ha
  refine ⟨fun hm => ?_, fun hm => ⟨fun p hp => ?_, fun hp => ?_⟩⟩ <;> rw [step_of_producer ha hm nofun] <;>
    refine congrArg Host.Outcome.next ?_
  · split
    next h => exact irq_of_taken (s := s.chosen) h
    next h => exact irq_of_not_taken (s := s.chosen) h
  · split
    next h => exact poll_of_due (s := s.chosen) hp h
    next h => exact poll_of_not_due (s := s.chosen) h
  · exact poll_of_no_period (s := s.chosen) hp

/-! ### Merging (R318) -/

/-- A poll period is at least one nanosecond (R355). -/
theorem pollPeriod_pos {a : Config.Activation} {p : Nat} (h : a.pollPeriod = some p) : 0 < p := by
  cases a with
  | irqOnly => cases h
  | irqAndPoll q => cases h; exact q.succ_pos
  | pollOnly q => cases h; exact q.succ_pos

theorem irq_idem (s : State) : irq (irq s) = irq s := by
  by_cases h : IrqTaken s
  · rw [irq_of_taken h]
    exact irq_of_taken h
  · rw [irq_of_not_taken h, irq_of_not_taken h]

/-- A poll tick puts the next one off, so a second at the same time is not due (R316). -/
theorem poll_idem (s : State) : poll (poll s) = poll s := by
  cases hp : s.board.activation.pollPeriod with
  | none => rw [poll_of_no_period hp, poll_of_no_period hp]
  | some p =>
    by_cases h : PollDue s
    · have hpos : 0 < p := pollPeriod_pos hp
      rw [poll_of_due hp h]
      refine poll_of_not_due fun ⟨_, hdue⟩ => ?_
      have hagain : s.now + p ≤ s.now := hdue
      omega
    · rw [poll_of_not_due h, poll_of_not_due h]

/-- The poll timer reads none of the flags, so it merges with any step that sets flags beside its own. -/
theorem poll_setAndWake {f : PendingFlags → PendingFlags} (hf : ∀ p, { f p with txn := true } = f { p with txn := true })
    (s : State) : poll (setAndWake f s) = setAndWake f (poll s) := by
  cases hp : s.board.activation.pollPeriod with
  | none => rw [poll_of_no_period hp, poll_of_no_period (s := setAndWake f s) hp]
  | some p =>
    by_cases h : PollDue s
    · rw [poll_of_due hp h, poll_of_due (s := setAndWake f s) hp h]
      simp [setAndWake, hf]
    · rw [poll_of_not_due h, poll_of_not_due (s := setAndWake f s) h]

theorem poll_armed (s : State) : (poll s).armed = s.armed := by
  unfold poll
  split
  · exact reads_ite rfl rfl
  · rfl

/-- A poll tick leaves what the interrupt's guard reads. -/
theorem irqTaken_poll_iff (s : State) : IrqTaken (poll s) ↔ IrqTaken s := by
  obtain ⟨hboard, -⟩ := samePort_poll s
  rw [IrqTaken, hboard, poll_armed, IrqTaken]

/-- The order of the two does not matter, because neither reads what the other sets. -/
theorem irq_poll_comm (s : State) : irq (poll s) = poll (irq s) := by
  by_cases h : IrqTaken s
  · rw [irq_of_taken h, irq_of_taken ((irqTaken_poll_iff s).2 h), poll_setAndWake fun _ => rfl]
  · rw [irq_of_not_taken h, irq_of_not_taken (mt (irqTaken_poll_iff s).1 h)]

/-- Settles O37: repetition of each source, and their order. -/
theorem activationOverlapIsIdempotent : Obligations.ActivationOverlapIsIdempotent :=
  fun s => ⟨irq_idem s, poll_idem s, irq_poll_comm s⟩

end Sys2Proof.Machine
end

section
/-!
No step from a state a Port can be in faults or is refused (R322): only the worker could, and what it plans there either ends by
itself or issues a word that runs.
-/

namespace Sys2Proof.Machine

/-- A plan that keeps the invariant is one that goes on. -/
theorem Plan.KeepsInv.runPlan_next {p : Plan} (h : p.KeepsInv) : ∃ t, runPlan p = .next t := by
  cases p with
  | silent t => exact ⟨t, rfl⟩
  | issue k u =>
    obtain ⟨t, hx, -⟩ := h
    exact ⟨t, (runPlan_issue k u).trans hx⟩
  | noByte => exact h.elim

/-- Settles O50: without a Port and for every agent beside the worker by definition; for the worker by what it can plan. -/
theorem noStepFaultsOrIsRefused : Obligations.NoStepFaultsOrIsRefused := by
  intro s hi
  cases ha : s.attached with
  | false => exact ⟨_, step_of_detached ha⟩
  | true =>
    by_cases hm : nextMove s.env = .worker
    · rw [step_of_worker ha hm]
      exact (keepsInv_workerPlan (inv_chosen hi)).runPlan_next
    · exact ⟨_, step_of_producer ha rfl hm⟩

end Sys2Proof.Machine
end

section
/-!
The reset state (R350, R351): its fields, for any parameters and for those R6 chooses, and that a Port can be in it.
-/

namespace Sys2Proof.Machine

/-- `DEFAULT_FORMAT`, where the table has a code for its rate (R26). -/
theorem defaultFormat_of_code {p : Config.Board} {c : BitVec 4} (h : codeOf p p.defaultFormat.baud = some c) :
    defaultFormat p =
      { baud := p.defaultFormat.baud, code := c, wlen := p.defaultFormat.wlen, par := p.defaultFormat.par
        stop := p.defaultFormat.stop } := by
  rw [defaultFormat, h]
  rfl

/-- The table of R176 has a code for the chosen rate of 9600 under both oscillators. -/
theorem codeOf_chosenBoard (x : Config.Crystal) (a : Config.Activation) :
    codeOf (Config.chosenBoard x a) (Config.chosenBoard x a).defaultFormat.baud =
      some (match x with | .slow => 10#4 | .fast => 11#4) := by
  cases x <;> rfl

/-- The values R6 chooses meet the preconditions of R355, whatever the OPEN ones are. -/
theorem boardOk_chosenBoard (x : Config.Crystal) (a : Config.Activation) : boardOk (Config.chosenBoard x a) = true := by
  rw [boardOk_iff, codeOf_chosenBoard]
  exact ⟨show 2 ≤ 4096 by decide, show 1 ≤ 8 by decide, show 1 ≤ 3 by decide, rfl⟩

/-- The hold does not depend on the code (R201), so neither on the oscillator: ten bits of 104166 ns. -/
theorem holdNs_chosenBoard (x : Config.Crystal) (a : Config.Activation) :
    holdNs (defaultFormat (Config.chosenBoard x a)) = 1041660 :=
  show bitTime 9600 * 10 = 1041660 by decide

/-- Settles O47: the reset state is written out field by field but for its format, which is the default one. -/
theorem resetValues : Obligations.ResetValues := by
  refine ⟨fun p clock e c hc => ?_, rfl, ?_, holdNs_chosenBoard _ _⟩
  · have hf := defaultFormat_of_code (p := p) hc
    dsimp only
    rw [State.resetWith, hf]
    rfl
  · have hf := defaultFormat_of_code (codeOf_chosenBoard Config.crystal Config.activation)
    exact congrArg Format.code hf

/-- Settles O48: the preconditions are those of R355, and the chosen values meet them. -/
theorem resetSatisfiesTheInvariant : Obligations.ResetSatisfiesTheInvariant :=
  ⟨fun b t e hcap hdrain hsink hcode =>
      inv_resetWith t e ((boardOk_iff b).2 ⟨hcap, hdrain, hsink, Option.isSome_iff_ne_none.2 hcode⟩),
    fun x a t e => inv_resetWith t e (boardOk_chosenBoard x a),
    inv_resetWith _ _ (boardOk_chosenBoard _ _)⟩

end Sys2Proof.Machine
end

section
/-!
How a session starts (R354, R343): which word the worker issues under which pending flags, what an agent beside the worker leaves of
a pending commit, and what a word leaves of the chip's configuration register (R337).
-/

namespace Sys2Proof.Machine

/-! ### The words by what calls for them (R234 to R243) -/

/-- Everything the worker can issue, each word with its fields and with what calls for it. -/
theorem issue_cases {s u : State} {k : Txn} (h : workerPlan s = .issue k u) :
    (k = .pwrdn s.fmt ∧ (s.pend.stop = true ∨ s.pend.susp = true)) ∨
    (k = .cfg s.stg ∧ s.line ≠ .suspended) ∨
    (k = .deoff ∧ s.pend.dis = true) ∨
    ((k = .rd ∨ ∃ c, k = .txd s.fmt c) ∧ s.phase.servicing) := by
  unfold workerPlan at h
  cases hp : s.phase with simp only [hp] at h
  | exited | endPass => cases h
  | parked => split at h <;> cases h
  | top =>
    obtain ⟨e, hpend⟩ | ⟨-, -, ⟨e, -⟩ | ⟨e, -, hdis⟩ | ⟨e, hl, -⟩ | ⟨e, -⟩ | ⟨e, -⟩⟩ := topPlan_cases s <;> rw [e] at h
    · cases h; exact .inl ⟨rfl, hpend⟩
    · cases h
    · obtain ⟨e, -⟩ | ⟨e, -⟩ | ⟨e, -⟩ | ⟨e, -⟩ := disableEvaluation_cases s _ rfl <;> rw [e] at h <;> cases h
      exact .inr (.inr (.inl ⟨rfl, hdis⟩))
    · cases h; exact .inr (.inl ⟨rfl, hl⟩)
    · cases h
    · cases h
  | drain k =>
    obtain ⟨e, -⟩ | ⟨e, -⟩ := drainPlan_cases s <;> rw [e] at h <;> cases h
    exact .inr (.inr (.inr ⟨.inl rfl, trivial⟩))
  | tx =>
    obtain ⟨e, -⟩ | ⟨-, ⟨e, -⟩ | ⟨-, -, -, ⟨c, -, e⟩ | ⟨-, e⟩⟩⟩ := txPlan_cases s <;> rw [e] at h <;> cases h
    exact .inr (.inr (.inr ⟨.inr ⟨c, rfl⟩, trivial⟩))

/-- With no disable pending and in no pass of servicing, the worker's only words are the power-down of a stop or a suspend and, on a
line that is not suspended, the commit (R236). -/
theorem pwrdn_or_cfg_of_issue {s u : State} {k : Txn} (h : workerPlan s = .issue k u) (hdis : s.pend.dis = false)
    (hp : ¬s.phase.servicing) :
    (k = .pwrdn s.fmt ∧ (s.pend.stop = true ∨ s.pend.susp = true)) ∨ (k = .cfg s.stg ∧ s.line ≠ .suspended) := by
  obtain hpw | hcfg | ⟨-, hd⟩ | ⟨-, hserv⟩ := issue_cases h
  · exact .inl hpw
  · exact .inr hcfg
  · simp [hdis] at hd
  · exact absurd hserv hp

theorem not_servicing_of_idle {p : Phase} (h : p = .parked ∨ p = .top ∨ p = .endPass) : ¬p.servicing := by
  obtain rfl | rfl | rfl := h <;> exact id

/-- While the line is `Starting` no disable is on its way and no pass of servicing runs: the words are the commit and the
power-down (R236, R354). -/
theorem issue_of_starting {s u : State} {k : Txn} (hi : Inv s) (hl : s.line = .starting) (h : workerPlan s = .issue k u) :
    k = .cfg s.stg ∨ k = .pwrdn s.fmt := by
  obtain ⟨-, -, hdis, hp⟩ := hi.startingCommits hl
  obtain ⟨hk, -⟩ | ⟨hk, -⟩ := pwrdn_or_cfg_of_issue h hdis (not_servicing_of_idle hp)
  · exact .inr hk
  · exact .inl hk

/-- While the line is `Suspended` no suspend is pending either: what is left is the power-down of a stop (R237, R239). -/
theorem issue_of_suspended {s u : State} {k : Txn} (hi : Inv s) (hl : s.line = .suspended) (h : workerPlan s = .issue k u) :
    k = .pwrdn s.fmt ∧ s.pend.stop = true := by
  obtain ⟨-, hdis, hp⟩ := hi.suspendedQuiet hl
  have hsusp : ¬s.pend.susp = true := fun hs => by simpa [hl] using hi.suspendIffSuspending.1 hs
  obtain ⟨hk, hpend⟩ | ⟨-, hne⟩ := pwrdn_or_cfg_of_issue h hdis (not_servicing_of_idle hp)
  · exact ⟨hk, hpend.resolve_right hsusp⟩
  · exact absurd hl hne

/-! ### The commit comes first -/

/-- A guard between two outcomes in which the commit comes first. -/
theorem commitFirst_ite {c : Prop} [Decidable c] {t u : State} (ht : CommitFirst t) (hu : CommitFirst u) :
    CommitFirst (if c then t else u) := by
  split
  · exact ht
  · exact hu

/-- A line that is up stays up under every request: only the worker suspends it or shuts it down (R290). -/
theorem up_of_lineStep_host {r : Request} {a b : LineState} (h : LineStep (.host r) a b)
    (hup : a = .starting ∨ a = .active ∨ a = .suspending) : b = .starting ∨ b = .active ∨ b = .suspending := by
  obtain rfl | ⟨-, rfl, -⟩ | ⟨-, -, hm⟩ | ⟨-, rfl, -⟩ | ⟨-, -, hm⟩ | ⟨-, rfl, -⟩ | ⟨-, -, hm⟩ := h
  · exact hup
  · exact .inl rfl
  · cases hm
  · exact .inr (.inr rfl)
  · cases hm
  · exact .inr (.inl rfl)
  · cases hm

/-- No request takes a pending commit back (R38, R40). -/
theorem hostStep_cfg (r : Request) {s : State} (h : s.pend.cfg = true) : (hostStep r s).pend.cfg = true := by
  cases r with
  | attach | queryModem | queryTxe | setMctrl => exact h
  | openPort => exact reads_ite (f := fun t => t.pend.cfg) rfl h
  | flush | stopTx | startTx | suspend | close | detach => exact reads_ite (f := fun t => t.pend.cfg) h h
  | push l =>
    change (push l s).pend.cfg = true
    by_cases hacc : acceptsWork s = true
    · rw [push_of_acceptsWork hacc rfl]
      exact h
    · rw [push, if_neg hacc]
      exact h
  | setFormat b w p st => exact reads_ite (f := fun t => t.pend.cfg) rfl h
  | resume =>
    refine reads_ite (f := fun t => t.pend.cfg) h ?_
    split
    · rfl
    · rfl
    · exact h

/-- A request leaves what belongs to the worker (R327), and with it the commit first. -/
theorem commitFirst_hostStep (r : Request) {s : State} (h : CommitFirst s) : CommitFirst (hostStep r s) := by
  obtain ⟨hup, hcfg, hdis, hos, hp⟩ := h
  have howned := hostStep_workerOwned r s
  have hphase : (hostStep r s).phase = s.phase := by
    obtain hsame | ⟨-, hl, -⟩ := hostStep_phase_cases r s
    · exact hsame
    · simp [hl] at hup
  exact ⟨up_of_lineStep_host (lineStep_hostStep r s) hup, hostStep_cfg r hcfg,
    (congrArg WorkerOwned.dis howned).trans hdis, (congrArg WorkerOwned.os howned).trans hos, hphase ▸ hp⟩

/-- No agent beside the worker comes between: a disarmed one-shot does not fire, and the interrupt and the poll timer set flags of
lower priority (R207, R315, R316). -/
theorem commitFirst_producerStep (m : Move) {s : State} (h : CommitFirst s) : CommitFirst (producerStep m s) := by
  cases m with
  | worker | tick => exact h
  | host r => exact commitFirst_hostStep r h
  | irq => exact commitFirst_ite h h
  | poll =>
    change CommitFirst (poll s)
    unfold poll
    split
    · exact commitFirst_ite h h
    · exact h
  | fire =>
    obtain ⟨hup, hcfg, hdis, hos, hp⟩ := h
    have hidle : producerStep .fire s = s := fire_of_disarmed hos
    rw [hidle]
    exact ⟨hup, hcfg, hdis, hos, hp⟩

/-- A worker step without a word is the wake or the idle step at `Parked`: at `Top` the worker issues (R232, R236). -/
theorem commitFirst_of_silent {s t : State} (h : CommitFirst s) (hplan : workerPlan s = .silent t) : CommitFirst t := by
  obtain ⟨hup, hcfg, hdis, hos, hp | hp⟩ := id h
  · rw [workerPlan_of_parked hp] at hplan
    cases hplan
    exact commitFirst_ite ⟨hup, hcfg, hdis, hos, .inr rfl⟩ h
  · rw [workerPlan_of_top hp] at hplan
    obtain ⟨e, -⟩ | ⟨-, -, ⟨-, hl⟩ | ⟨-, -, hd⟩ | ⟨e, -⟩ | ⟨-, -, -, hc⟩ | ⟨-, -, -, -, hc⟩⟩ := topPlan_cases s
    · rw [e] at hplan; cases hplan
    · simp [hl] at hup
    · simp [hdis] at hd
    · rw [e] at hplan; cases hplan
    · simp [hcfg] at hc
    · simp [hcfg] at hc

/-- An open finds nothing pending (R274, R352). -/
theorem commitFirst_openPort {s : State} (hi : Inv s) (hl : s.line = .shutdown) : CommitFirst (openPort s) := by
  obtain ⟨hpend, -, hos, -⟩ := hi.shutdownQuiet hl
  rw [openPort_of_shutdown hl]
  exact ⟨.inl rfl, rfl, congrArg PendingFlags.dis hpend, hos, .inl rfl⟩

/-- A resume of a suspended line finds no disable on its way, and the worker before `Top` unless it is at `End` (R284, R239). -/
theorem commitFirst_resume {s : State} (hi : Inv s) (hl : s.line = .suspended) (hstop : s.pend.stop = false)
    (hend : s.phase ≠ .endPass) : CommitFirst (resume s) := by
  obtain ⟨hos, hdis, hp⟩ := hi.suspendedQuiet hl
  rw [resume_of_suspended hl hstop]
  exact ⟨.inr (.inl rfl), rfl, hdis, hos, hp.imp_right (Or.resolve_right · hend)⟩

/-- A step while the commit comes first: it still does, or the step put the commit or a power-down on the bus. -/
theorem step_of_commitFirst {s t : State} (hi : Inv s) (hc : CommitFirst s) (h : step s = .next t) :
    (t.env.bus = s.env.bus ∧ CommitFirst t) ∨
    ∃ w a, t.env.bus = s.env.bus ++ [{ out := w, answer := a }] ∧ (w = enc (.cfg s.stg) ∨ w = enc (.pwrdn s.fmt)) := by
  have hbus : s.chosen.env.bus = s.env.bus := afterMove_bus s.env
  have hc' : CommitFirst s.chosen := hc
  rw [← hbus]
  obtain ⟨hup, -, hdis, -, hp⟩ := hc
  obtain ⟨ha, -⟩ | ⟨-, -, rfl⟩ | ⟨-, -, hplan⟩ | ⟨-, -, k, u, i, hplan, hd, hx⟩ := step_cases s t h
  · simp [hi.detachedShutdown ha] at hup
  · exact .inl ⟨(sameEnable_producerStep _ s.chosen).2, commitFirst_producerStep _ hc'⟩
  · exact .inl ⟨(sameEnable_of_silent hplan).2, commitFirst_of_silent hc' hplan⟩
  · refine .inr ⟨enc k, _, bus_of_issue hplan hd hx, ?_⟩
    obtain ⟨rfl, -⟩ | ⟨rfl, -⟩ := pwrdn_or_cfg_of_issue hplan hdis (not_servicing_of_idle (hp.imp_right .inl))
    · exact .inr rfl
    · exact .inl rfl

/-! ### The chip's configuration register (R337) -/

/-- What a worker step without a word leaves: formats, line, status, enable, deadline, clock and the chip are not among what it
writes (R230). -/
theorem frame_of_silent {s t : State} (h : workerPlan s = .silent t) :
    t = { s with tail := t.tail, os := t.os, outcome := t.outcome, pend := t.pend, wake := t.wake, phase := t.phase
                 fail := t.fail, rxbuf := t.rxbuf, ctr := t.ctr, log := t.log, env := t.env } := by
  unfold workerPlan at h
  cases hp : s.phase with simp only [hp] at h
  | exited => cases h; rfl
  | parked => split at h <;> cases h <;> rfl
  | top =>
    obtain ⟨e, -⟩ | ⟨-, -, ⟨e, -⟩ | ⟨e, -⟩ | ⟨e, -⟩ | ⟨e, -⟩ | ⟨e, -⟩⟩ := topPlan_cases s <;> rw [e] at h
    case inr.inr.inl =>
      obtain ⟨e, -⟩ | ⟨e, -⟩ | ⟨e, -⟩ | ⟨e, -⟩ := disableEvaluation_cases s _ rfl <;> rw [e] at h <;> cases h <;> rfl
    all_goals cases h <;> rfl
  | drain k =>
    obtain ⟨e, -⟩ | ⟨e, -⟩ := drainPlan_cases s <;> rw [e] at h <;> cases h
    rw [deliver_frame]
    rfl
  | tx =>
    obtain ⟨e, -⟩ | ⟨-, ⟨e, -⟩ | ⟨-, -, -, ⟨c, -, e⟩ | ⟨-, e⟩⟩⟩ := txPlan_cases s <;> rw [e] at h <;> cases h <;> rfl
  | endPass =>
    cases h
    rw [endStep_eq, deliver_frame]

theorem producerStep_chip (m : Move) (s : State) : (producerStep m s).chip = s.chip := by
  cases m with
  | worker | tick => rfl
  | host r => exact congrArg WorkerOwned.chip (hostStep_workerOwned r s)
  | irq => exact reads_ite rfl rfl
  | poll =>
    change (poll s).chip = s.chip
    unfold poll
    split
    · exact reads_ite rfl rfl
    · rfl
  | fire =>
    change (fire s).chip = s.chip
    unfold fire
    split
    · exact reads_ite rfl rfl
    · rfl

/-- Without a Port the register is left, or unknown in the one attached anew (R337, R350). -/
theorem detachedStep_chip (m : Move) (s : State) :
    (detachedStep m s).chip = s.chip ∨ (detachedStep m s).chip = .unknown := by
  unfold detachedStep attachPort
  split
  · split
    · exact .inr rfl
    · exact .inl rfl
  · exact .inl rfl

/-- The exchange alone moves what is known of the register, if what follows its answers does not. -/
theorem chip_exchange {w : Word} {onErr : State → State} {onOk : Word → State → State} {s : State}
    (hErr : ∀ u, (onErr u).chip = u.chip) (hOk : ∀ r u, (onOk r u).chip = u.chip) :
    (exchange w onErr onOk s).chip = chipAfter w (nextAnswer s.env) s.chip := by
  obtain ⟨-, e⟩ | ⟨r, -, e⟩ := exchange_cases w onErr onOk s
  · rw [e, hErr, exchanged_chip]
  · rw [e, hOk, exchanged_chip]

theorem rdOk_chip (r : Word) (s : State) : (rdOk r s).chip = s.chip := by
  obtain ⟨p, f, l, c, g, e, -, h⟩ := drainNext_frame r (capture r true (decodeData r (decodeStatus r s)))
  rw [rdOk, h]
  exact capture_chip r true _

/-- A transaction moves what is known of the register by its word and answer alone (R337). -/
theorem chip_of_exec {i : Instr} {s t : State} (h : exec i s = .next t) :
    t.chip = chipAfter (encode i) (nextAnswer s.env) s.chip := by
  cases i with
  | cfg st pe l b => cases h; exact chip_exchange (s := setPend _ s) (fun _ => rfl) fun _ _ => rfl
  | pwrdn st pe l b =>
    cases h
    exact reads_ite (chip_exchange (fun _ => rfl) fun _ _ => rfl)
      (reads_ite (chip_exchange (fun _ => rfl) fun _ _ => rfl) (chip_exchange (fun _ => rfl) fun _ _ => rfl))
  | rd => cases h; exact chip_exchange (fun _ => rfl) rdOk_chip
  | txd pt d => cases h; exact chip_exchange (fun _ => rfl) fun r _ => capture_chip r false _
  | deoff => cases h; exact chip_exchange (fun _ => rfl) fun r _ => capture_chip r false _
  | rc => cases h

/-- SHDNi is bit 12 of a configuration word (R102). -/
theorem getLsbD_shutdown_writeConfigWord (shdn st pe l : Bool) (b : BitVec 4) :
    ((writeConfigWord shdn st pe l b).extractLsb' 0 14).getLsbD 12 = shdn := by
  revert shdn st pe l b
  decide

/-- The register leaves power-down only by an answered commit word (R146, R149, R337). -/
theorem cfg_of_chip_wakes {i : Instr} {a : Answer} {b b' : BitVec 14} (h : chipAfter (encode i) a (.known b) = .known b')
    (hb : b.getLsbD 12 = true) (hb' : b'.getLsbD 12 = false) :
    (∃ st pe l c, i = .cfg st pe l c) ∧ ∃ r, a = .ok r := by
  cases a with
  | err => cases h
  | ok r =>
    refine ⟨?_, r, rfl⟩
    unfold chipAfter at h
    simp only [tagOf_encode] at h
    cases i with
    | cfg st pe l c => exact ⟨st, pe, l, c, rfl⟩
    | pwrdn st pe l c =>
      cases h
      cases (getLsbD_shutdown_writeConfigWord true st pe l c).symm.trans hb'
    | rd | txd | deoff | rc =>
      cases h
      cases hb.symm.trans hb'

/-- The commit word the worker issues is that of the staged format (R146, R236). -/
theorem eq_cfg_stg_of_issue {s u : State} {k : Txn} (h : workerPlan s = .issue k u)
    (hk : ∃ st pe l c, instrOf k = .cfg st pe l c) : k = .cfg s.stg := by
  obtain ⟨st, pe, l, c, hk⟩ := hk
  obtain ⟨rfl, -⟩ | ⟨hcfg, -⟩ | ⟨rfl, -⟩ | ⟨rfl | ⟨c, rfl⟩, -⟩ := issue_cases h
  case inr.inl => exact hcfg
  all_goals cases hk

/-- A step that takes the register out of power-down is the worker's commit, answered: no other agent and no silent step moves what is
known of it (R337). -/
theorem commit_of_chip_wakes {s t : State} {b b' : BitVec 14} (h : step s = .next t) (hs : s.chip = .known b)
    (hb : b.getLsbD 12 = true) (ht : t.chip = .known b') (hb' : b'.getLsbD 12 = false) :
    ∃ r, t.env.bus = s.env.bus ++ [{ out := enc (.cfg s.stg), answer := .ok r }] := by
  have hmoved : t.chip ≠ s.chip := by
    rw [hs, ht]
    rintro ⟨⟩
    cases hb.symm.trans hb'
  obtain ⟨-, rfl⟩ | ⟨-, -, rfl⟩ | ⟨-, -, hplan⟩ | ⟨-, -, k, u, i, hplan, hd, hx⟩ := step_cases s t h
  · obtain e | e := detachedStep_chip (nextMove s.env) s.chosen
    · exact absurd e hmoved
    · cases ht.symm.trans e
  · exact absurd (producerStep_chip _ s.chosen) hmoved
  · exact absurd (congrArg State.chip (frame_of_silent hplan)) hmoved
  · have hu : u.chip = .known b := by
      obtain ⟨rfl, -⟩ | ⟨-, rfl, -⟩ := workerPlan_issue s.chosen u k hplan <;> exact hs
    have hbus := bus_of_issue hplan hd hx
    rw [decodeWord_enc] at hd
    cases hd
    have hchip := chip_of_exec hx
    rw [hu, ht] at hchip
    obtain ⟨hcfg, r, hr⟩ := cfg_of_chip_wakes hchip.symm hb hb'
    rw [eq_cfg_stg_of_issue hplan hcfg, hr, chosen_env, afterMove_bus] at hbus
    exact ⟨r, hbus⟩

/-- Settles O57: an open and a resume put the commit first, and it stays first until a session word; the words of a `Starting` and of
a `Suspended` line; and the register. -/
theorem sessionStartsWithACommit : Obligations.SessionStartsWithACommit := by
  refine ⟨fun s t hi ha h hcall => ?_, fun s t => step_of_commitFirst, fun s t w a hi hl h hbus => ?_,
    fun s t w a hi hl h hbus => ?_, fun s t b b' => commit_of_chip_wakes⟩
  · have hi' : Inv s.chosen := inv_chosen hi
    obtain ⟨hm, hl⟩ | ⟨hm, hl, hstop, hend⟩ := hcall
    · rw [step_of_host ha hm] at h
      cases h
      exact commitFirst_openPort hi' hl
    · rw [step_of_host ha hm] at h
      cases h
      exact commitFirst_resume hi' hl hstop hend
  · obtain ⟨k, u, hplan, hw⟩ := issue_of_bus h hbus
    obtain rfl | rfl := issue_of_starting (inv_chosen hi) hl hplan
    · exact .inl hw
    · exact .inr hw
  · obtain ⟨k, u, hplan, hw⟩ := issue_of_bus h hbus
    obtain ⟨rfl, hstop⟩ := issue_of_suspended (inv_chosen hi) hl hplan
    exact ⟨hw, hstop⟩

end Sys2Proof.Machine
end
